-- ==== Sys2Proof/Word.lean ====
section
/-! DEFINITION. The words of the block: the byte, the 20-bit raw value, the 10-bit event word and the 24-bit command
word. Bit 0 is the least significant bit of every value (R10); every stored value is unsigned (R11). -/

namespace Sys2Proof

/-- A byte: what an event carries and what every buffer cell holds (R6, R27, R29). -/
abbrev Byte := BitVec 8

/-- A 20-bit raw value, `RAW_H` or `RAW_T` (R141, R142). -/
abbrev Raw := BitVec 20

/-- The 10-bit event word `kind[1:0], arg[7:0]` of R71. -/
abbrev EventWord := BitVec 10

/-- The 24-bit word `b0, b1, b2` of a three-byte command, `b0` in bits 23:16 (R73). -/
abbrev CommandWord := BitVec 24

end Sys2Proof
end

