-- ==== Sys2Proof/Config.lean ====
section
/-! DEFINITION. The constants of this hardware (R8) and what the spec leaves open as a parameter (R9): the sensed values
and the filler byte. -/

namespace Sys2Proof.Config

/-- `BUS_ADDR`: the one address the block acknowledges (R8, R52). -/
abbrev busAddr : Nat := 0x38

/-- `ADDR_W`: the width of an address in an event word (R9). PRESUMED: log 11. -/
abbrev addrWidth : Nat := 7

/-- `CMD_SOFT_RESET` (R8). -/
abbrev cmdSoftReset : Byte := 0xBA#8

/-- `CMD_INIT`, the first byte of the three (R8). -/
abbrev cmdInit : Byte := 0xBE#8

/-- `CMD_TRIGGER`, first byte (R8). -/
abbrev cmdTrigger0 : Byte := 0x00#8

/-- `CMD_TRIGGER`, second byte (R8). -/
abbrev cmdTrigger1 : Byte := 0xAC#8

/-- `CMD_TRIGGER`, third byte (R8). -/
abbrev cmdTrigger2 : Byte := 0x33#8

/-- `STATUS_DEFAULT`: calibrated, not busy (R8). -/
abbrev statusDefault : Byte := 0x18#8

/-- `STATUS_BUSY`: mask of status bit 7 (R8). -/
abbrev statusBusy : Byte := 0x80#8

/-- `STATUS_CAL`: mask of status bit 3 (R8). -/
abbrev statusCal : Byte := 0x08#8

/-- `CRC_POLY` (R8, R163). -/
abbrev crcPoly : Byte := 0x31#8

/-- `CRC_INIT` (R8, R163). -/
abbrev crcInit : Byte := 0xFF#8

/-- `HUM_MIN` in percent (R8). -/
abbrev humMin : Rat := 60

/-- `HUM_MAX` in percent, itself excluded (R8). -/
abbrev humMax : Rat := 76

/-- `TEMP_MIN` in degrees Celsius (R8). -/
abbrev tempMin : Rat := 18

/-- `TEMP_MAX` in degrees Celsius, itself excluded (R8). -/
abbrev tempMax : Rat := 26

end Sys2Proof.Config

namespace Sys2Proof

/-- The relative humidity of one instance, in percent. A value outside the range is no configuration of this hardware
(R21, R143), so none can be built. -/
structure Humidity where
  percent : Rat
  inRange : Config.humMin ≤ percent ∧ percent < Config.humMax
deriving DecidableEq, Repr

/-- The temperature of one instance, in degrees Celsius, within its range (R22, R143). -/
structure Temperature where
  celsius : Rat
  inRange : Config.tempMin ≤ celsius ∧ celsius < Config.tempMax
deriving DecidableEq, Repr

end Sys2Proof

namespace Sys2Proof.Config

/-- FREE VALUE. The random draw behind HUM at construction, a pair that stands for a fraction (R200, D10). The random
source is not modelled. DESIGN CHOICE: log 5. -/
opaque humidityDraw : Nat × Nat

/-- FREE VALUE. The random draw behind TEMP at construction (R200, D10). DESIGN CHOICE: log 5. -/
opaque temperatureDraw : Nat × Nat

/-- The fraction in [0, 1) that a draw stands for; every rational of [0, 1) is one. -/
def unitDraw (d : Nat × Nat) : Rat := ((d.1 % (d.2 + 1) : Nat) : Rat) / ((d.2 + 1 : Nat) : Rat)

theorem unitDraw_range (d : Nat × Nat) : 0 ≤ unitDraw d ∧ unitDraw d < 1 := by
  have hpos : (0 : Rat) < ((d.2 + 1 : Nat) : Rat) := by exact_mod_cast Nat.succ_pos d.2
  have hlt : ((d.1 % (d.2 + 1) : Nat) : Rat) < ((d.2 + 1 : Nat) : Rat) := by
    exact_mod_cast Nat.mod_lt d.1 (Nat.succ_pos d.2)
  exact ⟨div_nonneg (Nat.cast_nonneg _) hpos.le, (div_lt_one hpos).mpr hlt⟩

/-- HUM of the instance that `State.reset` stands for: some value of [60, 76), which one is not known (R36). -/
def humidity : Humidity :=
  ⟨humMin + (humMax - humMin) * unitDraw humidityDraw, by
    have h := unitDraw_range humidityDraw
    unfold humMin humMax
    constructor <;> linarith [h.1, h.2]⟩

/-- TEMP of the instance that `State.reset` stands for: some value of [18, 26), which one is not known (R36). -/
def temperature : Temperature :=
  ⟨tempMin + (tempMax - tempMin) * unitDraw temperatureDraw, by
    have h := unitDraw_range temperatureDraw
    unfold tempMin tempMax
    constructor <;> linarith [h.1, h.2]⟩

/-- FREE VALUE. `FILLER`, the byte of the read that finds the frame exhausted (R101, D5): a total function of the block's
state before the read (where `measuring` is 1 and `readIndex` is 7) and of how many filler bytes came before.
DESIGN CHOICE: log 6. -/
opaque filler (count : Nat) (initialized : Bool) (status : Byte) (readBuffer : Vector Byte 7)
  (writeBuffer : Vector Byte 3) (writeIndex : Fin 4) (hum : Humidity) (temp : Temperature) : Byte

end Sys2Proof.Config
end

