-- ==== Sys2Proof/Syntax.lean ====
section
/-! DEFINITION. What the block executes: the four bus events (R70), the commands its decoder finds in the written bytes
(R75), and `Instr`, which has one constructor for each row of spec/opcode_table.json. -/

namespace Sys2Proof

/-- The nine rows of the opcode table. -/
inductive Instr where
  /-- CONNECT: the transport presents an address (R100). `address` is any natural number (R52, log 11). -/
  | connect (address : Nat) (writeIntent : Bool)
  /-- READ_BYTE: the transport asks for a byte (R101). -/
  | readByte
  /-- WRITE_BYTE: the transport delivers a byte (R102). -/
  | writeByte (data : Byte)
  /-- DISCONNECT: the end of a transaction (R104). -/
  | disconnect
  /-- SOFT_RESET: the one-byte command (R121). -/
  | softReset
  /-- INIT: three bytes, the last two ignored (R122). -/
  | init (x y : Byte)
  /-- TRIGGER: the three bytes that start a measurement (R123). -/
  | trigger
  /-- UNRECOGNIZED: any other three bytes (R124). -/
  | unrecognized (b0 b1 b2 : Byte)
  /-- WAIT: no command is complete (R125). -/
  | wait
deriving DecidableEq, Repr

/-- The events a transport delivers: the four-constructor type of R70. -/
inductive Event where
  | connect (address : Nat) (writeIntent : Bool)
  | readByte
  | writeByte (data : Byte)
  | disconnect
deriving DecidableEq, Repr

/-- What the command decoder finds after a byte is stored (R75, R120). -/
inductive Command where
  | softReset
  | init (x y : Byte)
  | trigger
  | unrecognized (b0 b1 b2 : Byte)
  | wait
deriving DecidableEq, Repr

/-- An event as its row of the table. -/
def Event.toInstr (e : Event) : Instr :=
  match e with
  | .connect address writeIntent => .connect address writeIntent
  | .readByte => .readByte
  | .writeByte data => .writeByte data
  | .disconnect => .disconnect

/-- A command as its row of the table. -/
def Command.toInstr (c : Command) : Instr :=
  match c with
  | .softReset => .softReset
  | .init x y => .init x y
  | .trigger => .trigger
  | .unrecognized b0 b1 b2 => .unrecognized b0 b1 b2
  | .wait => .wait

end Sys2Proof
end

