-- ==== Sys2Proof/Machine/State.lean ====
section
/-! DEFINITION. The state of the engine as plain data (R20), the ports of its interface (R6), the reasons a step can
stop, and the state after construction (R36, R200). -/

namespace Sys2Proof.Machine

/-- One sample of the input ports of R6: four event strobes and the inputs of the events. -/
structure Ports where
  evConnect : Bool
  evRead : Bool
  evWrite : Bool
  evDisconnect : Bool
  address : BitVec 7
  writeIntent : Bool
  data : Byte
deriving DecidableEq, Repr

/-- What the output ports of R6 carry after an event. -/
inductive Output where
  /-- The event has no output (DISCONNECT), or no event has come. -/
  | nothing
  /-- The acknowledge bit of CONNECT or WRITE_BYTE: true is 1, acknowledge (R72). -/
  | ack (acknowledged : Bool)
  /-- The byte of READ_BYTE. -/
  | rdata (byte : Byte)
deriving DecidableEq, Repr

/-- The state of the engine: the state block of R20 with the widths given there, then the model's own fields `output`,
`inbox` and `fillerCount`. -/
structure State where
  /-- `HUM`, fixed at construction (R21). -/
  hum : Humidity
  /-- `TEMP`, fixed at construction (R22). -/
  temp : Temperature
  /-- Set by INIT, cleared by SOFT_RESET, read by nothing (R23). -/
  initialized : Bool
  /-- A read frame is available: MEASURING when true, IDLE when false (R24, R34). -/
  measuring : Bool
  /-- Bit 7 busy, bit 3 calibrated (R25). -/
  status : Byte
  /-- The seven bytes of the read frame (R27). -/
  readBuffer : Vector Byte 7
  /-- The frame cursor (R28). -/
  readIndex : Fin 8
  /-- The bytes of the command in flight (R29). -/
  writeBuffer : Vector Byte 3
  /-- The command cursor (R30). -/
  writeIndex : Fin 4
  /-- MODEL: what the last event returned (R6). Log 2. -/
  output : Output
  /-- MODEL: the port samples the environment will deliver, the next one first (R6). Log 1. -/
  inbox : List Ports
  /-- MODEL: how many filler bytes have been returned, for the free value FILLER. Log 7. -/
  fillerCount : Nat
deriving DecidableEq, Repr

/-- Why a step can fault: never. "No event faults; no state is stuck" (R189), so the type has no constructor; safe
because the spec defines every event in every state. Log 18. -/
inductive Fault where
deriving DecidableEq, Repr

/-- Why the model gives a step no meaning. -/
inductive Refusal where
  /-- Raised by `exec` for an instruction without a meaning (none is left). Safe: it stops. -/
  | notModelled (mnemonic : String)
  /-- Raised by `step` when a sample asserts more than one strobe: overlapping delivery is outside the machine (R60, U9).
  Safe: it stops. -/
  | overlappingEvents
  /-- Raised by `construct` for a HUM or TEMP outside its range: not a machine this spec describes (R143, U11). Safe: it
  stops. -/
  | configurationOutOfRange
deriving DecidableEq, Repr

/-- The state after construction with given sensed values (R36, R200). The buffers' zeros are a DESIGN CHOICE: log 8. -/
def State.constructed (hum : Humidity) (temp : Temperature) : State where
  hum := hum
  temp := temp
  initialized := false
  measuring := false
  status := Config.statusDefault
  readBuffer := Vector.replicate 7 0#8
  readIndex := 0
  writeBuffer := Vector.replicate 3 0#8
  writeIndex := 0
  output := .nothing
  inbox := []
  fillerCount := 0

/-- The machine right after reset, which is construction (R200): HUM and TEMP are the opaque configuration. -/
def State.reset : State := State.constructed Config.humidity Config.temperature

end Sys2Proof.Machine
end

