-- ==== Sys2Proof/WellFormed.lean ====
section
/-! DEFINITION. Which instructions have an encoding in the table's words: an address of `ADDR_W` bits (R72), and a
three-byte word that is really unrecognised (R77). -/

namespace Sys2Proof

/-- The check of each row's operands. Rows whose operands are bytes have nothing to check. -/
def Instr.wellFormed (i : Instr) : Bool :=
  match i with
  | .connect address _ => decide (address < 2 ^ Config.addrWidth)
  | .readByte => true
  | .writeByte _ => true
  | .disconnect => true
  | .softReset => true
  | .init _ _ => true
  | .trigger => true
  | .unrecognized b0 b1 b2 =>
    b0 != Config.cmdInit && !(b0 == Config.cmdTrigger0 && b1 == Config.cmdTrigger1 && b2 == Config.cmdTrigger2)
  | .wait => true

/-- An event whose address fits the `ADDR_W` bits of the address port (R6). -/
def Event.wellFormed (e : Event) : Bool := e.toInstr.wellFormed

end Sys2Proof
end

