-- ==== Sys2Proof/Decode.lean ====
section
/-! DEFINITION. The decoders and the encoder: event words (R71), the command decoder (R120), and the words of
spec/opcode_table.json (R85). Decoding is total: a word of no row is rejected by name. -/

namespace Sys2Proof

/-- Bits 9:8 of an event word (R71). -/
def eventKind (w : EventWord) : BitVec 2 := w.extractLsb' 8 2

/-- Bits 7:0 of an event word (R71): the byte of a WRITE_BYTE. -/
def eventArg (w : EventWord) : Byte := w.extractLsb' 0 8

/-- Bits 7:1 of an event word: the address of a CONNECT (R71). -/
def eventAddress (w : EventWord) : BitVec 7 := w.extractLsb' 1 7

/-- Bit 0 of an event word: the direction of a CONNECT (R71). -/
def eventIntent (w : EventWord) : Bool := w.getLsbD 0

/-- The event of an event word: every one of the 1024 words decodes to exactly one event (R71). -/
def decodeEvent (w : EventWord) : Event :=
  if eventKind w = 0#2 then .connect (eventAddress w).toNat (eventIntent w)
  else if eventKind w = 1#2 then .readByte
  else if eventKind w = 2#2 then .writeByte (eventArg w)
  else .disconnect

/-- The event word `00`, address, direction of a CONNECT (R71). -/
def connectWord (address : BitVec 7) (writeIntent : Bool) : EventWord :=
  0#2 ++ address ++ BitVec.ofBool writeIntent

/-- The event word of a WRITE_BYTE (R71). -/
def writeWord (data : Byte) : EventWord := 2#2 ++ data

/-- The canonical event word of a READ_BYTE: the ignored bits are 0 (R71). -/
def readWord : EventWord := 1#2 ++ 0#8

/-- The canonical event word of a DISCONNECT (R71). -/
def disconnectWord : EventWord := 3#2 ++ 0#8

/-- The canonical word of an event (R71). -/
def encodeEvent (e : Event) : EventWord :=
  match e with
  | .connect address writeIntent => connectWord (BitVec.ofNat 7 address) writeIntent
  | .readByte => readWord
  | .writeByte data => writeWord data
  | .disconnect => disconnectWord

/-- The command decoder `decode()` of R120, after the byte `data` is stored and the cursor incremented to `cursor`:
five branches in the source's order. -/
def decodeCommand (cursor : Nat) (data : Byte) (buffer : Vector Byte 3) : Command :=
  if cursor = 1 ∧ data = Config.cmdSoftReset then .softReset
  else if cursor = 3 ∧ buffer[0] = Config.cmdInit then .init buffer[1] buffer[2]
  else if cursor = 3 ∧ buffer[0] = Config.cmdTrigger0 ∧ buffer[1] = Config.cmdTrigger1
      ∧ buffer[2] = Config.cmdTrigger2 then .trigger
  else if cursor = 3 then .unrecognized buffer[0] buffer[1] buffer[2]
  else .wait

/-- A word of the opcode table: how many bits, in whole bytes, and their value, bit 0 the least significant (R85). The
length names the format: 16 EVT (10 bits and six zeros), 8 CMD1, 24 CMD3, 0 NONE. DESIGN CHOICE: log 10. -/
structure TableWord where
  nbits : Nat
  word : Nat
deriving DecidableEq, Repr

/-- Why a table word is no instruction. -/
inductive DecodeError where
  /-- The length is none of the table's formats (R85). -/
  | noSuchFormat
  /-- The value has a bit above the format's width. -/
  | wordTooWide
deriving DecidableEq, Repr

/-- Byte `k` of a three-byte command word, `b0` in bits 23:16 (R73). -/
def commandByte (w : CommandWord) (k : Nat) : Byte := w.extractLsb' (16 - 8 * k) 8

/-- The bytes of a three-byte command word in arrival order (R73). -/
def commandBytes (w : CommandWord) : Vector Byte 3 := #v[commandByte w 0, commandByte w 1, commandByte w 2]

/-- A one-byte word as the decoder finds it at the first position of a command (R74). -/
def decodeCommand1 (b0 : Byte) : Command := decodeCommand 1 b0 #v[b0, 0#8, 0#8]

/-- A three-byte word as the decoder finds it when its third byte is stored (R74). -/
def decodeCommand3 (w : CommandWord) : Command := decodeCommand 3 (commandByte w 2) (commandBytes w)

/-- The instruction of a table word, or the name of why there is none. -/
def decode (t : TableWord) : Except DecodeError Instr :=
  if t.nbits = 16 ∨ t.nbits = 10 then
    if t.word < 2 ^ 10 then .ok (decodeEvent (BitVec.ofNat 10 t.word)).toInstr else .error .wordTooWide
  else if t.nbits = 8 then
    if t.word < 2 ^ 8 then .ok (decodeCommand1 (BitVec.ofNat 8 t.word)).toInstr else .error .wordTooWide
  else if t.nbits = 24 then
    if t.word < 2 ^ 24 then .ok (decodeCommand3 (BitVec.ofNat 24 t.word)).toInstr else .error .wordTooWide
  else if t.nbits = 0 then
    if t.word < 2 ^ 0 then .ok .wait else .error .wordTooWide
  else .error .noSuchFormat

/-- The table word of three command bytes (R73). -/
def commandWord3 (b0 b1 b2 : Byte) : TableWord := ⟨24, (b0 ++ b1 ++ b2 : CommandWord).toNat⟩

/-- The table word of a well-formed instruction, written from the table's patterns (R71, R75, R85). -/
def encode (i : Instr) : TableWord :=
  match i with
  | .connect address writeIntent => ⟨16, (encodeEvent (.connect address writeIntent)).toNat⟩
  | .readByte => ⟨16, (encodeEvent .readByte).toNat⟩
  | .writeByte data => ⟨16, (encodeEvent (.writeByte data)).toNat⟩
  | .disconnect => ⟨16, (encodeEvent .disconnect).toNat⟩
  | .softReset => ⟨8, Config.cmdSoftReset.toNat⟩
  | .init x y => commandWord3 Config.cmdInit x y
  | .trigger => commandWord3 Config.cmdTrigger0 Config.cmdTrigger1 Config.cmdTrigger2
  | .unrecognized b0 b1 b2 => commandWord3 b0 b1 b2
  | .wait => ⟨0, 0⟩

/-- The instruction that the decoder reads from a table word of `nbits` bits. -/
def decodeTableWord (nbits w : Nat) : Option Instr := (decode ⟨nbits, w⟩).toOption

end Sys2Proof
end

