-- ==== Sys2Proof/Machine/Ops.lean ====
section
/-! DEFINITION. The named operations over the state block: one write per field (R12), the two buffer accesses `MemRead` and
`MemWrite` (R50, R51), the free filler byte (R101), and construction with given sensed values (R200). The block has no
trap mechanism (R185), so there is no exception entry and no return among them; the labels that `raise` leaves are in
Machine/Conditions.lean. -/

namespace Sys2Proof.Machine

/-- `initialized <- v` (R23). -/
def setInitialized (v : Bool) (s : State) : State := { s with initialized := v }

/-- `measuring <- v` (R24). -/
def setMeasuring (v : Bool) (s : State) : State := { s with measuring := v }

/-- `status <- v` (R25). -/
def setStatus (v : Byte) (s : State) : State := { s with status := v }

/-- All seven frame bytes written (R27). -/
def setReadBuffer (v : Vector Byte 7) (s : State) : State := { s with readBuffer := v }

/-- `readIndex <- v` (R28). -/
def setReadIndex (v : Fin 8) (s : State) : State := { s with readIndex := v }

/-- All three command bytes written (R29). -/
def setWriteBuffer (v : Vector Byte 3) (s : State) : State := { s with writeBuffer := v }

/-- `writeIndex <- v` (R30). -/
def setWriteIndex (v : Fin 4) (s : State) : State := { s with writeIndex := v }

/-- What the event returns (R6). -/
def setOutput (v : Output) (s : State) : State := { s with output := v }

/-- What the environment will deliver (log 1). -/
def setInbox (v : List Ports) (s : State) : State := { s with inbox := v }

/-- The count behind the free value FILLER (log 7). -/
def setFillerCount (v : Nat) (s : State) : State := { s with fillerCount := v }

/-- `MemRead(i, 1)` on the read stream: `readBuffer[i]`, `i` from 0 to 6 only (R12, R50, R218). -/
def memRead (i : Fin 7) (s : State) : Byte := s.readBuffer[i]

/-- `MemWrite(i, 1, v)` on the write stream: `writeBuffer[i] <- v`, `i` from 0 to 2 only (R12, R51, R218). -/
def memWrite (i : Fin 3) (v : Byte) (s : State) : State := setWriteBuffer (s.writeBuffer.set i v) s

/-- `FILLER` in the state before the read (R101 case C, D5): a free value, log 6. -/
def fillerByte (s : State) : Byte :=
  Config.filler s.fillerCount s.initialized s.status s.readBuffer s.writeBuffer s.writeIndex s.hum s.temp

/-- Construction with given sensed values (R200, D10): the state of R36, or refused where a value is outside its range
(R143, U11). -/
def construct (hum temp : Rat) : Host.Outcome State Fault Refusal :=
  if hHum : Config.humMin ≤ hum ∧ hum < Config.humMax then
    if hTemp : Config.tempMin ≤ temp ∧ temp < Config.tempMax then
      .next (State.constructed ⟨hum, hHum⟩ ⟨temp, hTemp⟩)
    else .refused .configurationOutOfRange
  else .refused .configurationOutOfRange

end Sys2Proof.Machine
end

