-- ==== Sys2Proof/Machine/Flags.lean ====
section
/-! DEFINITION. The bits of `status` and the three ways a rule writes the register (R25): the busy bit set, the busy bit
cleared, the whole register at rest. -/

namespace Sys2Proof.Machine

/-- Bit 7, the busy flag (R25). -/
def busy (s : State) : Bool := s.status &&& Config.statusBusy != 0#8

/-- Bit 3, the calibration-enabled flag (R25). -/
def calibrated (s : State) : Bool := s.status &&& Config.statusCal != 0#8

/-- `status <- status | 0x80` (R140). -/
def setBusy (s : State) : State := setStatus (s.status ||| Config.statusBusy) s

/-- `status <- status & 0x7F` (R101, R145). -/
def clearBusy (s : State) : State := setStatus (s.status &&& ~~~Config.statusBusy) s

/-- `status <- 0x18` (R121, R122). -/
def restStatus (s : State) : State := setStatus Config.statusDefault s

end Sys2Proof.Machine
end

