-- ==== Sys2Proof/Machine/Measurement.lean ====
section
/-! DEFINITION. The Measurement Algorithm, step by step (R140 to R149), the raw values (R141 to R144), the frame as a
function of them (R82, R150), and how a controller reads it back (R83). -/

namespace Sys2Proof.Machine

/-- `round(q)`: the nearest integer, a tie going up (R144). PRESUMED by the spec from the C library: log 13. -/
def roundHalfUp (q : Rat) : Int := (q + 1 / 2).floor

/-- `HUM * 1048576 / 100`, exact (R141). -/
def humidityQuotient (h : Humidity) : Rat := h.percent * 1048576 / 100

/-- `(TEMP + 50) * 1048576 / 200`, exact (R142). -/
def temperatureQuotient (t : Temperature) : Rat := (t.celsius + 50) * 1048576 / 200

/-- `RAW_H` (R141). -/
def rawHumidity (h : Humidity) : Raw := BitVec.ofInt 20 (roundHalfUp (humidityQuotient h))

/-- `RAW_T` (R142). -/
def rawTemperature (t : Temperature) : Raw := BitVec.ofInt 20 (roundHalfUp (temperatureQuotient t))

/-- Frame byte 1, `RAW_H[19:12]` (R147). -/
def humidityHigh (h : Raw) : Byte := h.extractLsb' 12 8

/-- Frame byte 2, `RAW_H[11:4]` (R147). -/
def humidityMid (h : Raw) : Byte := h.extractLsb' 4 8

/-- Frame byte 3, `RAW_H[3:0]` above `RAW_T[19:16]` (R147). -/
def sharedNibbles (h t : Raw) : Byte := h.extractLsb' 0 4 ++ t.extractLsb' 16 4

/-- Frame byte 4, `RAW_T[15:8]` (R147). -/
def temperatureMid (t : Raw) : Byte := t.extractLsb' 8 8

/-- Frame byte 5, `RAW_T[7:0]` (R147). -/
def temperatureLow (t : Raw) : Byte := t.extractLsb' 0 8

/-- One byte of the frame written. -/
def setFrameByte (i : Fin 7) (v : Byte) (s : State) : State := setReadBuffer (s.readBuffer.set i v) s

/-- Step 5a: `readBuffer[0] <- status` (R146). -/
def packStatus (s : State) : State := setFrameByte 0 s.status s

/-- Step 5b: the five data bytes (R147). -/
def packData (h t : Raw) (s : State) : State :=
  setFrameByte 5 (temperatureLow t) (setFrameByte 4 (temperatureMid t) (setFrameByte 3 (sharedNibbles h t)
    (setFrameByte 2 (humidityMid h) (setFrameByte 1 (humidityHigh h) s))))

/-- The six bytes the checksum covers, in index order (R148, R161). -/
def checkedBytes (frame : Vector Byte 7) : List Byte :=
  [frame[0], frame[1], frame[2], frame[3], frame[4], frame[5]]

/-- Step 6: `readBuffer[6] <- crc8(readBuffer[0..5])` (R148). -/
def packChecksum (s : State) : State := setFrameByte 6 (crc8 (checkedBytes s.readBuffer)) s

/-- The seven steps in the source's order (R140 to R149, R151). -/
def measure (s : State) : State :=
  setMeasuring true (packChecksum (packData (rawHumidity s.hum) (rawTemperature s.temp)
    (packStatus (clearBusy (setBusy s)))))

/-- The frame with a given status byte: the layout of R82 and the checksum of R148. -/
def frameOf (d0 : Byte) (h t : Raw) : Vector Byte 7 :=
  #v[d0, humidityHigh h, humidityMid h, sharedNibbles h t, temperatureMid t, temperatureLow t,
    crc8 [d0, humidityHigh h, humidityMid h, sharedNibbles h t, temperatureMid t, temperatureLow t]]

/-- `FRAME(H, T)` (R150). -/
def frame (h t : Raw) : Vector Byte 7 := frameOf Config.statusDefault h t

/-- The humidity a controller reassembles: byte 1, byte 2, byte 3 bits 7:4 (R54, R83). -/
def unpackHumidity (f : Vector Byte 7) : Raw := f[1] ++ f[2] ++ f[3].extractLsb' 4 4

/-- The temperature a controller reassembles: byte 3 bits 3:0, byte 4, byte 5 (R54, R83). -/
def unpackTemperature (f : Vector Byte 7) : Raw := f[3].extractLsb' 0 4 ++ f[4] ++ f[5]

/-- Humidity in percent from a raw value (R83). -/
def percentOfRaw (h : Raw) : Rat := (h.toNat : Rat) * 100 / 1048576

/-- Temperature in degrees Celsius from a raw value (R83). -/
def celsiusOfRaw (t : Raw) : Rat := (t.toNat : Rat) * 200 / 1048576 - 50

end Sys2Proof.Machine
end

