-- ==== Sys2Proof/Machine/Operands.lean ====
section
/-! DEFINITION. The two cursors, which are the only addressing modes (R106): each gives an effective index while it is
below its maximum and is post-incremented by 1; at its maximum it gives none, so no index is ever out of range and no
cursor wraps (R28, R30, R218). -/

namespace Sys2Proof.Machine

/-- READ_BYTE's effective index: `readIndex` while it is below 7 (R106). -/
def frameIndex (s : State) : Option (Fin 7) :=
  if h : s.readIndex.val < 7 then some ⟨s.readIndex.val, h⟩ else none

/-- WRITE_BYTE's effective index: `writeIndex` while it is below 3 (R106). -/
def commandIndex (s : State) : Option (Fin 3) :=
  if h : s.writeIndex.val < 3 then some ⟨s.writeIndex.val, h⟩ else none

/-- The frame cursor after the byte at `i` was read (R101). -/
def advanceFrame (i : Fin 7) (s : State) : State := setReadIndex i.succ s

/-- The byte stored and the command cursor incremented: the first half of WRITE_BYTE (R102). -/
def storeByte (i : Fin 3) (data : Byte) (s : State) : State := setWriteIndex i.succ (memWrite i data s)

end Sys2Proof.Machine
end

