-- ==== Sys2Proof/Machine/Commands.lean ====
section
/-! DEFINITION. The commands: what the decoder's branch does to the state after the byte is stored and the cursor
incremented (R120 to R125). No command writes an output: the WRITE_BYTE that completes it returns `ack = 1` (R126). -/

namespace Sys2Proof.Machine

/-- SOFT_RESET: `initialized`, `measuring`, `status`, `writeIndex`, and not `readIndex` (R121). -/
def softReset (s : State) : State := setWriteIndex 0 (restStatus (setMeasuring false (setInitialized false s)))

/-- INIT: `initialized`, `status`, `writeIndex`, and not `measuring` (R122, C4). -/
def initialise (s : State) : State := setWriteIndex 0 (restStatus (setInitialized true s))

/-- TRIGGER: the Measurement Algorithm, then `writeIndex`; no precondition (R123). -/
def triggerMeasurement (s : State) : State := setWriteIndex 0 (measure s)

/-- UNRECOGNIZED: the cursor only; the bytes stay (R124). -/
def discardCommand (s : State) : State := setWriteIndex 0 s

/-- What the decoded command does (R120): exactly one branch. -/
def runCommand (c : Command) (s : State) : State :=
  match c with
  | .softReset => softReset s
  | .init _ _ => initialise s
  | .trigger => triggerMeasurement s
  | .unrecognized _ _ _ => discardCommand s
  | .wait => s

/-- SOFT_RESET (R121). -/
def execSoftReset (s : State) : Host.Outcome State Fault Refusal := .next (softReset s)

/-- INIT (R122): the operand bytes are accepted and used for nothing. -/
def execInit (_x _y : Byte) (s : State) : Host.Outcome State Fault Refusal := .next (initialise s)

/-- TRIGGER (R123). -/
def execTrigger (s : State) : Host.Outcome State Fault Refusal := .next (triggerMeasurement s)

/-- UNRECOGNIZED (R124). -/
def execUnrecognized (_b0 _b1 _b2 : Byte) (s : State) : Host.Outcome State Fault Refusal :=
  .next (discardCommand s)

/-- WAIT (R125): no further state change. -/
def execWait (s : State) : Host.Outcome State Fault Refusal := .next s

end Sys2Proof.Machine
end

