-- ==== Sys2Proof/Machine/Events.lean ====
section
/-! DEFINITION. The four bus events (R100 to R104). Each is total: it has a result in every state (R62, R189). -/

namespace Sys2Proof.Machine

/-- The address match (R100): equality with 0x38 and nothing else (R72). -/
def addressMatches (address : Nat) : Bool := address == Config.busAddr

/-- CONNECT (R100, C1): the acknowledge is the match; the frame cursor restarts only on a match in MEASURING. -/
def onConnect (address : Nat) (s : State) : State :=
  setOutput (.ack (addressMatches address))
    (match addressMatches address && s.measuring with
    | true => setReadIndex 0 s
    | false => s)

/-- READ_BYTE case C: the frame is exhausted (R101, C2): back to IDLE, and the byte is FILLER, taken in the state before
the read. -/
def endFrame (s : State) : State :=
  setOutput (.rdata (fillerByte s)) (setFillerCount (s.fillerCount + 1) (clearBusy (setReadIndex 0 (setMeasuring false s))))

/-- READ_BYTE (R101): case A the status in IDLE, case B the next frame byte, case C the end of the frame. -/
def onReadByte (s : State) : State :=
  match s.measuring with
  | false => setOutput (.rdata s.status) s
  | true =>
    match frameIndex s with
    | some i => setOutput (.rdata (memRead i s)) (advanceFrame i s)
    | none => endFrame s

/-- The command that the byte `data`, stored at `i`, completes or not (R120): the decoder sees the updated cursor and the
updated buffer. -/
def decodedCommand (i : Fin 3) (data : Byte) (s : State) : Command :=
  decodeCommand (storeByte i data s).writeIndex.val data (storeByte i data s).writeBuffer

/-- The overrun guard (R103, D6): the byte is rejected, the cursor reset. Log 14. -/
def rejectOverrun (s : State) : State := setOutput (.ack false) (setWriteIndex 0 s)

/-- WRITE_BYTE (R102): store, increment, decode, acknowledge; the guard where the cursor is at 3. -/
def onWriteByte (data : Byte) (s : State) : State :=
  match commandIndex s with
  | some i => setOutput (.ack true) (runCommand (decodedCommand i data s) (storeByte i data s))
  | none => rejectOverrun s

/-- DISCONNECT (R104): no state change and no output. -/
def onDisconnect (s : State) : State := setOutput .nothing s

/-- CONNECT (R100): `writeIntent` is read by no rule (R65). -/
def execConnect (address : Nat) (_writeIntent : Bool) (s : State) : Host.Outcome State Fault Refusal :=
  .next (onConnect address s)

/-- READ_BYTE (R101). -/
def execReadByte (s : State) : Host.Outcome State Fault Refusal := .next (onReadByte s)

/-- WRITE_BYTE (R102, R103). -/
def execWriteByte (data : Byte) (s : State) : Host.Outcome State Fault Refusal := .next (onWriteByte data s)

/-- DISCONNECT (R104). -/
def execDisconnect (s : State) : Host.Outcome State Fault Refusal := .next (onDisconnect s)

end Sys2Proof.Machine
end

