-- ==== Sys2Proof/Machine/Dispatch.lean ====
section
/-! DEFINITION. One arm per row of the opcode table, each one call of its meaning. -/

namespace Sys2Proof.Machine

def exec (i : Instr) (s : State) : Host.Outcome State Fault Refusal :=
  match i with
  | .connect address writeIntent => Sys2Proof.Machine.execConnect address writeIntent s
  | .readByte => Sys2Proof.Machine.execReadByte s
  | .writeByte data => Sys2Proof.Machine.execWriteByte data s
  | .disconnect => Sys2Proof.Machine.execDisconnect s
  | .softReset => Sys2Proof.Machine.execSoftReset s
  | .init x y => Sys2Proof.Machine.execInit x y s
  | .trigger => Sys2Proof.Machine.execTrigger s
  | .unrecognized b0 b1 b2 => Sys2Proof.Machine.execUnrecognized b0 b1 b2 s
  | .wait => Sys2Proof.Machine.execWait s

end Sys2Proof.Machine
end

