-- ==== Sys2Proof/Machine/Fetch.lean ====
section
/-! DEFINITION. How the next event is taken from the ports of R6, and how a table word is placed so that the next step
runs it. -/

namespace Sys2Proof.Machine

/-- What one sample of the ports delivers. -/
inductive Sample where
  /-- No strobe is asserted (R6: at most one). -/
  | idle
  /-- Exactly one strobe is asserted: the event word of R71. -/
  | event (word : EventWord)
  /-- More than one strobe is asserted: outside the machine (R60, U9). -/
  | overlap
deriving DecidableEq, Repr

/-- The strobes and inputs of R6 read as an event word of R71. -/
def samplePorts (p : Ports) : Sample :=
  match p.evConnect, p.evRead, p.evWrite, p.evDisconnect with
  | false, false, false, false => .idle
  | true, false, false, false => .event (connectWord p.address p.writeIntent)
  | false, true, false, false => .event readWord
  | false, false, true, false => .event (writeWord p.data)
  | false, false, false, true => .event disconnectWord
  | _, _, _, _ => .overlap

/-- An event word driven onto the ports of R6: one strobe, and the argument bits on the input wires. -/
def portsOfWord (w : EventWord) : Ports where
  evConnect := eventKind w == 0#2
  evRead := eventKind w == 1#2
  evWrite := eventKind w == 2#2
  evDisconnect := eventKind w == 3#2
  address := eventAddress w
  writeIntent := eventIntent w
  data := eventArg w

/-- An event driven onto the ports. -/
def portsOfEvent (e : Event) : Ports := portsOfWord (encodeEvent e)

/-- The next sample of the ports delivers an event word, before all that was pending. -/
def deliverWord (w : EventWord) (s : State) : State := setInbox (portsOfWord w :: s.inbox) s

/-- The next sample delivers the byte `data` as the byte at position `cursor` of a command (R74). -/
def deliverCommandByte (cursor : Fin 4) (data : Byte) (s : State) : State :=
  deliverWord (writeWord data) (setWriteIndex cursor s)

/-- A table word placed where the next step takes its event. An event word goes onto the ports. A command is carried by
WRITE_BYTE events and is complete at its last byte (R73, R74), so the bytes before it are set as already written and the
last byte goes onto the ports; WAIT is shown by a first byte that completes nothing. A word the decoder rejects is not
placed. Log 9 and log 10. -/
def placeTableWord (nbits w : Nat) (s : State) : State :=
  match decode ⟨nbits, w⟩ with
  | .error _ => s
  | .ok _ =>
    if nbits = 8 then deliverCommandByte 0 (BitVec.ofNat 8 w) s
    else if nbits = 24 then
      deliverCommandByte 2 (commandByte (BitVec.ofNat 24 w) 2)
        (memWrite 1 (commandByte (BitVec.ofNat 24 w) 1) (memWrite 0 (commandByte (BitVec.ofNat 24 w) 0) s))
    else if nbits = 0 then deliverCommandByte 0 0#8 s
    else deliverWord (BitVec.ofNat 10 w) s

/-- A step in which no event is delivered: the state block is constant (R186) and nothing is returned. Log 3. -/
def idleStep (s : State) : State := setOutput .nothing s

end Sys2Proof.Machine
end

