-- ==== Sys2Proof/Machine/Step.lean ====
section
/-! DEFINITION. One step: one sample of the ports, at most one event (R5, R6, R60). -/

namespace Sys2Proof.Machine

/-- The next sample of the ports is taken; its event, if it has one, is executed; overlapping delivery is refused. -/
def step (s : State) : Host.Outcome State Fault Refusal :=
  match s.inbox with
  | [] => .next (idleStep s)
  | p :: rest =>
    match samplePorts p with
    | .idle => .next (idleStep (setInbox rest s))
    | .event w => exec (decodeEvent w).toInstr (setInbox rest s)
    | .overlap => .refused .overlappingEvents

/-- The state whose very next step runs the instruction of a table word. -/
def State.withFetchWord (s : State) (nbits w : Nat) : State := placeTableWord nbits w s

end Sys2Proof.Machine
end

