-- ==== Sys2Proof/Machine/Conditions.lean ====
section
/-! DEFINITION. The four protocol conditions (R180 to R184). `raise` is a label on the step with no effect (R12, R185):
no field of State holds it, so these are functions of the event and the state before it. Log 16. -/

namespace Sys2Proof.Machine

/-- The conditions of the source, in its order (R180). -/
inductive Condition where
  /-- A CONNECT whose address is not 0x38 (R181). -/
  | addressMismatch
  /-- Three bytes that are neither INIT nor TRIGGER (R182). -/
  | unrecognizedCommand
  /-- A WRITE_BYTE with `writeIndex == 3` (R183). -/
  | bufferOverrun
  /-- A READ_BYTE with no acknowledged CONNECT before it: a property of the trace (R184). -/
  | spuriousRead
deriving DecidableEq, Repr

/-- The number R180 gives a condition; it appears in no state and no output. -/
def Condition.number (c : Condition) : Nat :=
  match c with
  | .addressMismatch => 1
  | .unrecognizedCommand => 2
  | .bufferOverrun => 3
  | .spuriousRead => 4

/-- What a decoded command raises (R121 to R125): only UNRECOGNIZED raises anything. -/
def commandRaises (c : Command) : Option Condition :=
  match c with
  | .softReset => none
  | .init _ _ => none
  | .trigger => none
  | .unrecognized _ _ _ => some .unrecognizedCommand
  | .wait => none

/-- What an event raises in a state: at most one condition, and READ_BYTE none (R187). -/
def raises (e : Event) (s : State) : Option Condition :=
  match e with
  | .connect address _ => if addressMatches address then none else some .addressMismatch
  | .readByte => none
  | .writeByte data =>
    match commandIndex s with
    | some i => commandRaises (decodedCommand i data s)
    | none => some .bufferOverrun
  | .disconnect => none

end Sys2Proof.Machine
end

