-- ==== Sys2Proof/Machine/Trace.lean ====
section
/-! DEFINITION. Traces (R13): the outputs and the final state of a sequence of events, the ghost of the transport contract
(R62), and the pseudo-operations of R84. -/

namespace Sys2Proof.Machine

/-- One event applied to the state (R5). -/
def applyEvent (e : Event) (s : State) : State :=
  match e with
  | .connect address _ => onConnect address s
  | .readByte => onReadByte s
  | .writeByte data => onWriteByte data s
  | .disconnect => onDisconnect s

/-- The state a trace leaves (R13). -/
def runState (es : List Event) (s : State) : State :=
  match es with
  | [] => s
  | e :: rest => runState rest (applyEvent e s)

/-- The outputs of a trace, one for each event (R13). -/
def runOutputs (es : List Event) (s : State) : List Output :=
  match es with
  | [] => []
  | e :: rest => (applyEvent e s).output :: runOutputs rest (applyEvent e s)

/-- What the transport knows and the block does not (R33, R62): whether the block is addressed, and the direction of the
open transaction, if one is open. Ghost: no field of State. -/
structure Link where
  addressed : Bool
  intent : Option Bool
deriving DecidableEq, Repr

/-- At the start of a trace nothing is addressed (R62). -/
def Link.start : Link := ⟨false, none⟩

/-- The ghost after an event that left the state `s` (R62): the returned acknowledge of a CONNECT, cleared by DISCONNECT. -/
def Link.after (l : Link) (e : Event) (s : State) : Link :=
  match e with
  | .connect _ writeIntent => ⟨s.output == .ack true, some writeIntent⟩
  | .readByte => l
  | .writeByte _ => l
  | .disconnect => ⟨false, none⟩

/-- The event is allowed by a well-formed trace here (R62): bytes move only while addressed. -/
def Link.allows (l : Link) (e : Event) : Bool :=
  match e with
  | .connect _ _ => true
  | .readByte => l.addressed
  | .writeByte _ => l.addressed
  | .disconnect => true

/-- The event keeps to the direction of the open transaction (R62). -/
def Link.inDirection (l : Link) (e : Event) : Bool :=
  match e with
  | .connect _ _ => true
  | .readByte => l.intent != some true
  | .writeByte _ => l.intent != some false
  | .disconnect => true

/-- The trace is well-formed from a ghost and a state (R62). -/
def wellFormedTrace (l : Link) (es : List Event) (s : State) : Bool :=
  match es with
  | [] => true
  | e :: rest => l.allows e && wellFormedTrace (l.after e (applyEvent e s)) rest (applyEvent e s)

/-- The trace is direction-consistent from a ghost and a state (R62): well-formed, and each transaction of one direction. -/
def directionConsistent (l : Link) (es : List Event) (s : State) : Bool :=
  match es with
  | [] => true
  | e :: rest =>
    l.allows e && l.inDirection e && directionConsistent (l.after e (applyEvent e s)) rest (applyEvent e s)

/-- The condition that labels an event of a trace: what the event raises, or SpuriousRead where a READ_BYTE comes while
nothing is addressed (R184). -/
def eventLabel (l : Link) (e : Event) (s : State) : Option Condition :=
  match e with
  | .connect _ _ => raises e s
  | .readByte => if l.addressed then none else some .spuriousRead
  | .writeByte _ => raises e s
  | .disconnect => raises e s

/-- The labels of a trace, one for each event. -/
def runLabels (l : Link) (es : List Event) (s : State) : List (Option Condition) :=
  match es with
  | [] => []
  | e :: rest => eventLabel l e s :: runLabels (l.after e (applyEvent e s)) rest (applyEvent e s)

/-- A write transaction to this block that carries the bytes (R84). -/
def writeTransaction (bytes : List Byte) : List Event :=
  .connect Config.busAddr true :: bytes.map .writeByte ++ [.disconnect]

/-- `SOFT_RESET` of R84. -/
def opSoftReset : List Event := writeTransaction [Config.cmdSoftReset]

/-- `INIT x y` of R84. -/
def opInit (x y : Byte) : List Event := writeTransaction [Config.cmdInit, x, y]

/-- `TRIGGER` of R84. -/
def opTrigger : List Event := writeTransaction [Config.cmdTrigger0, Config.cmdTrigger1, Config.cmdTrigger2]

/-- `READ n` of R84. -/
def opRead (n : Nat) : List Event :=
  .connect Config.busAddr false :: List.replicate n .readByte ++ [.disconnect]

/-- `POLL` of R84. -/
def opPoll : List Event := opRead 1

/-- `RESYNC` of R84. -/
def opResync : List Event := writeTransaction [Config.cmdSoftReset, Config.cmdSoftReset, Config.cmdSoftReset]

end Sys2Proof.Machine
end

