-- ==== Sys2Proof/Safety.lean ====
section
/-! DEFINITION. What holds in a safe run: the invariants of R26 and R32, and the states that runs reach. -/

namespace Sys2Proof.Machine

/-- The invariants of R26 and R32 at an event boundary. `readIndex <= 7` (item 3) is in the type of the field. -/
structure State.Inv (s : State) : Prop where
  /-- R26, R32 item 1. -/
  statusAtRest : s.status = Config.statusDefault
  /-- R32 item 2. -/
  cursorBelowThree : s.writeIndex.val < 3
  /-- R32 item 4. -/
  noResetInFlight : 1 ≤ s.writeIndex.val → s.writeBuffer[0] ≠ Config.cmdSoftReset
  /-- R32 item 6. -/
  frameReady : s.measuring = true → s.readBuffer = frame (rawHumidity s.hum) (rawTemperature s.temp)

/-- The states that some instance reaches by some trace from construction (R13, R200). -/
def Reachable (s : State) : Prop :=
  ∃ (hum temp : Rat) (start : State) (es : List Event), construct hum temp = .next start ∧ s = runState es start

/-- Everything but the output, the pending samples and the filler count is the same: the state block of R20. -/
structure SameBlock (s t : State) : Prop where
  hum : t.hum = s.hum
  temp : t.temp = s.temp
  initialized : t.initialized = s.initialized
  measuring : t.measuring = s.measuring
  status : t.status = s.status
  readBuffer : t.readBuffer = s.readBuffer
  readIndex : t.readIndex = s.readIndex
  writeBuffer : t.writeBuffer = s.writeBuffer
  writeIndex : t.writeIndex = s.writeIndex

/-- Two states agree on everything a rule may read (R27, R32 items 5 and 6, R35): all of the block but `initialized`, but
`readBuffer` in IDLE, and but the bytes of `writeBuffer` at and above the cursor. -/
structure AgreeOnLive (s t : State) : Prop where
  hum : t.hum = s.hum
  temp : t.temp = s.temp
  measuring : t.measuring = s.measuring
  status : t.status = s.status
  readIndex : t.readIndex = s.readIndex
  writeIndex : t.writeIndex = s.writeIndex
  readBuffer : s.measuring = true → t.readBuffer = s.readBuffer
  writeBuffer : ∀ i : Fin 3, i.val < s.writeIndex.val → t.writeBuffer[i] = s.writeBuffer[i]

/-- What R214 proves by induction, with the ghost of R62: the frame cursor is 0 in IDLE, and 0 in an open write
transaction to this block. -/
structure CursorRule (l : Link) (s : State) : Prop where
  idle : s.measuring = false → s.readIndex = 0
  hasDirection : l.addressed = true → l.intent ≠ none
  writing : l.addressed = true → l.intent = some true → s.readIndex = 0

/-- The event is the read that finds the frame exhausted, whose byte is FILLER (R101 case C). -/
def readsFiller (e : Event) (s : State) : Bool :=
  match e with
  | .connect _ _ => false
  | .readByte => s.measuring && (frameIndex s).isNone
  | .writeByte _ => false
  | .disconnect => false

/-- The outputs of a trace with the filler bytes left out: what a controller may rely on (R101 corner case b, D5). -/
def runVisible (es : List Event) (s : State) : List (Option Output) :=
  match es with
  | [] => []
  | e :: rest =>
    (if readsFiller e s then none else some (applyEvent e s).output) :: runVisible rest (applyEvent e s)

/-- The event is the WRITE_BYTE in which the decoder finds the command (R120). -/
def completes (e : Event) (s : State) (c : Command) : Prop :=
  ∃ (data : Byte) (i : Fin 3), e = .writeByte data ∧ commandIndex s = some i ∧ decodedCommand i data s = c

end Sys2Proof.Machine
end

