-- ==== Sys2Proof/Certificates/Slice0/Obligations.lean ====
section
/-! DEFINITION. The statements for the provers. Each names in its docstring the rule of spec/ it formalises. Values are
written out as the spec writes them, not through the names of Config. -/

open Sys2Proof Sys2Proof.Machine

/-! ## The four events -/

/-- R100, whole: the acknowledge is the match, the cursor restarts only on a match in MEASURING, nothing else is written,
and AddressMismatch labels the other addresses. -/
def Obligations.ConnectResult : Prop :=
  ∀ (address : Nat) (writeIntent : Bool) (s : State),
    exec (.connect address writeIntent) s = .next { s with
      output := .ack (decide (address = 0x38))
      readIndex := if address = 0x38 ∧ s.measuring = true then 0 else s.readIndex } ∧
    raises (.connect address writeIntent) s = if address = 0x38 then none else some .addressMismatch

/-- 60_exceptions.md section 1 and 20_memory.md section 6 (R181, R62): a mismatch acknowledges with 0, touches nothing, is
labelled, and after it a well-formed trace holds no byte event as long as it holds no acknowledged CONNECT. The trace
contract is read through the ghost of R62 (the decision D12, log 16). -/
def Obligations.AddressMismatchTouchesNothing : Prop :=
  ∀ (address : Nat) (writeIntent : Bool) (l : Link) (s : State), address ≠ 0x38 →
    ∃ t, exec (.connect address writeIntent) s = .next t ∧ SameBlock s t ∧ t.output = .ack false ∧
      raises (.connect address writeIntent) s = some .addressMismatch ∧
      ∀ es : List Event, wellFormedTrace (l.after (.connect address writeIntent) t) es t = true →
        (∀ writeIntent', Event.connect 0x38 writeIntent' ∉ es) →
        ∀ e ∈ es, e ≠ .readByte ∧ ∀ data, e ≠ .writeByte data

/-- R101, whole: the three cases of the read multiplexer. In case C the byte is some byte (FILLER is open); the model's
own count of filler bytes may change there (log 7). -/
def Obligations.ReadByteResult : Prop :=
  ∀ s : State,
    (s.measuring = false → exec .readByte s = .next { s with output := .rdata s.status }) ∧
    (s.measuring = true → ∀ i : Fin 7, s.readIndex.val = i.val →
      exec .readByte s = .next { s with output := .rdata s.readBuffer[i], readIndex := i.succ }) ∧
    (s.measuring = true → s.readIndex.val = 7 → ∃ (filler : Byte) (count : Nat),
      exec .readByte s = .next { s with
        output := .rdata filler
        fillerCount := count
        measuring := false
        readIndex := 0
        status := s.status &&& 0x7F#8 }) ∧
    raises .readByte s = none

/-- 40_bus_events.md section 3 (R102): below the maximum the byte is stored, the cursor incremented, the command that
R120 finds is executed on that state, and the acknowledge is 1. -/
def Obligations.WriteByteResult : Prop :=
  ∀ (data : Byte) (i : Fin 3) (s : State), s.writeIndex.val = i.val →
    ∃ t, exec (decodeCommand (i.val + 1) data (s.writeBuffer.set i data)).toInstr
        { s with writeBuffer := s.writeBuffer.set i data, writeIndex := i.succ } = .next t ∧
      exec (.writeByte data) s = .next { t with output := .ack true }

/-- 40_bus_events.md section 3 (R103, the spec's decision D6, log 14): at the maximum the byte is rejected and the cursor
reset, and nothing else changes. -/
def Obligations.OverrunIsRejected : Prop :=
  ∀ (data : Byte) (s : State), s.writeIndex.val = 3 →
    exec (.writeByte data) s = .next { s with output := .ack false, writeIndex := 0 } ∧
    raises (.writeByte data) s = some .bufferOverrun

/-- R104, whole: no state change, no output, no condition. -/
def Obligations.DisconnectChangesNothing : Prop :=
  ∀ s : State, ∃ t, exec .disconnect s = .next t ∧ t = { s with output := .nothing } ∧ SameBlock s t ∧
    raises .disconnect s = none

/-- R78: every event is accepted in every state, and the only refusals are the two acknowledges of 0. -/
def Obligations.EveryEventIsAccepted : Prop :=
  ∀ (e : Event) (s : State), ∃ t, exec e.toInstr s = .next t ∧
    (t.output = .ack false ↔ raises e s = some .addressMismatch ∨ raises e s = some .bufferOverrun)

/-- 00_scope.md section 4 (R6): which output each event has. -/
def Obligations.OutputsOfTheInterface : Prop :=
  ∀ s : State,
    (∀ address writeIntent, ∃ t a, exec (.connect address writeIntent) s = .next t ∧ t.output = .ack a) ∧
    (∃ t v, exec .readByte s = .next t ∧ t.output = .rdata v) ∧
    (∀ data, ∃ t a, exec (.writeByte data) s = .next t ∧ t.output = .ack a) ∧
    (∃ t, exec .disconnect s = .next t ∧ t.output = .nothing)

/-! ## The commands -/

/-- R121: the four fields SOFT_RESET writes and no other, and exactly when the decoder finds it. -/
def Obligations.SoftResetResult : Prop :=
  (∀ s : State, exec .softReset s = .next { s with
      initialized := false
      measuring := false
      status := 0x18#8
      writeIndex := 0 }) ∧
  (∀ (cursor : Nat) (data : Byte) (buffer : Vector Byte 3),
    decodeCommand cursor data buffer = .softReset ↔ cursor = 1 ∧ data = 0xBA#8) ∧
  commandRaises .softReset = none ∧ decodeTableWord 8 0xBA = some .softReset

/-- R122: the three fields INIT writes, `measuring` not among them, for every operand pair, and exactly when the decoder
finds it. -/
def Obligations.InitResult : Prop :=
  (∀ (x y : Byte) (s : State), exec (.init x y) s = .next { s with
      initialized := true
      status := 0x18#8
      writeIndex := 0 }) ∧
  (∀ (cursor : Nat) (data x y : Byte) (buffer : Vector Byte 3),
    decodeCommand cursor data buffer = .init x y ↔
      cursor = 3 ∧ buffer[0] = 0xBE#8 ∧ x = buffer[1] ∧ y = buffer[2]) ∧
  ∀ x y : Byte, commandRaises (.init x y) = none

/-- 41_commands.md section 4 and 42_measurement.md section 2 (R123, R150): TRIGGER from any state, with the frame as a
function of the status byte and of the raw values, which rest on the spec's decision D9 (log 13). -/
def Obligations.TriggerResult : Prop :=
  (∀ s : State, exec .trigger s = .next { s with
      status := s.status &&& 0x7F#8
      readBuffer := frameOf (s.status &&& 0x7F#8) (rawHumidity s.hum) (rawTemperature s.temp)
      measuring := true
      writeIndex := 0 }) ∧
  (∀ (cursor : Nat) (data : Byte) (buffer : Vector Byte 3),
    decodeCommand cursor data buffer = .trigger ↔ cursor = 3 ∧ buffer = #v[0x00#8, 0xAC#8, 0x33#8]) ∧
  commandRaises .trigger = none

/-- R124: UNRECOGNIZED writes the cursor only, and is found exactly where neither INIT nor TRIGGER is. -/
def Obligations.UnrecognizedResult : Prop :=
  (∀ (b0 b1 b2 : Byte) (s : State), exec (.unrecognized b0 b1 b2) s = .next { s with writeIndex := 0 }) ∧
  (∀ (cursor : Nat) (data b0 b1 b2 : Byte) (buffer : Vector Byte 3),
    decodeCommand cursor data buffer = .unrecognized b0 b1 b2 ↔
      cursor = 3 ∧ buffer = #v[b0, b1, b2] ∧ b0 ≠ 0xBE#8 ∧ buffer ≠ #v[0x00#8, 0xAC#8, 0x33#8]) ∧
  ∀ b0 b1 b2 : Byte, commandRaises (.unrecognized b0 b1 b2) = some .unrecognizedCommand

/-- R182: the WRITE_BYTE that stores the third byte of an unrecognised word raises the label, acknowledges like any other,
and its whole effect beside the stored byte is the cursor. -/
def Obligations.UnrecognizedIsDiscarded : Prop :=
  ∀ (data : Byte) (s : State), s.writeIndex.val = 2 → s.writeBuffer[0] ≠ 0xBE#8 →
    ¬(s.writeBuffer[0] = 0x00#8 ∧ s.writeBuffer[1] = 0xAC#8 ∧ data = 0x33#8) →
    exec (.writeByte data) s = .next { s with
      writeBuffer := s.writeBuffer.set 2 data
      writeIndex := 0
      output := .ack true } ∧
    raises (.writeByte data) s = some .unrecognizedCommand

/-- R125: WAIT changes nothing, and is found exactly after a first byte that is not 0xBA and after a second byte. -/
def Obligations.WaitResult : Prop :=
  (∀ s : State, exec .wait s = .next s) ∧
  (∀ (cursor : Nat) (data : Byte) (buffer : Vector Byte 3), 1 ≤ cursor → cursor ≤ 3 →
    (decodeCommand cursor data buffer = .wait ↔ (cursor = 1 ∧ data ≠ 0xBA#8) ∨ cursor = 2)) ∧
  commandRaises .wait = none

/-- 20_memory.md section 7, 40_bus_events.md section 3, 41_commands.md and 42_measurement.md section 2 (R64, R102, R120 to
R125, R150): the whole effect of a WRITE_BYTE by the position of its byte; a command takes effect inside the event that
delivers its last byte. A cursor at 3 is OverrunIsRejected. The frame's raw values rest on D9 (log 13). -/
def Obligations.CommandEffectInTheLastByte : Prop :=
  ∀ (data : Byte) (s : State),
    (s.writeIndex.val = 0 → exec (.writeByte data) s = .next
      (if data = 0xBA#8 then { s with
        writeBuffer := s.writeBuffer.set 0 data
        initialized := false
        measuring := false
        status := 0x18#8
        writeIndex := 0
        output := .ack true }
      else { s with
        writeBuffer := s.writeBuffer.set 0 data
        writeIndex := 1
        output := .ack true })) ∧
    (s.writeIndex.val = 1 → exec (.writeByte data) s = .next { s with
        writeBuffer := s.writeBuffer.set 1 data
        writeIndex := 2
        output := .ack true }) ∧
    (s.writeIndex.val = 2 → exec (.writeByte data) s = .next
      (if s.writeBuffer[0] = 0xBE#8 then { s with
        writeBuffer := s.writeBuffer.set 2 data
        initialized := true
        status := 0x18#8
        writeIndex := 0
        output := .ack true }
      else if s.writeBuffer[0] = 0x00#8 ∧ s.writeBuffer[1] = 0xAC#8 ∧ data = 0x33#8 then { s with
        writeBuffer := s.writeBuffer.set 2 data
        status := s.status &&& 0x7F#8
        readBuffer := frameOf (s.status &&& 0x7F#8) (rawHumidity s.hum) (rawTemperature s.temp)
        measuring := true
        writeIndex := 0
        output := .ack true }
      else { s with
        writeBuffer := s.writeBuffer.set 2 data
        writeIndex := 0
        output := .ack true }))

/-! ## The measurement -/

/-- R82 and R148: the frame that TRIGGER packs, byte by byte: the status, the forty bits of the two raw values from the
most significant end, and the checksum of the six bytes before it. -/
def Obligations.FrameLayout : Prop :=
  ∀ s : State, ∃ t, exec .trigger s = .next t ∧
    t.readBuffer[0] = t.status ∧
    (t.readBuffer[1] ++ t.readBuffer[2] ++ t.readBuffer[3] ++ t.readBuffer[4] ++ t.readBuffer[5] : BitVec 40) =
      (rawHumidity s.hum ++ rawTemperature s.temp : BitVec 40) ∧
    t.readBuffer[6] = crc8 [t.readBuffer[0], t.readBuffer[1], t.readBuffer[2], t.readBuffer[3], t.readBuffer[4],
      t.readBuffer[5]]

/-- 30_encoding.md section 5 (R83): reassembling the data bytes gives the two raw values back. -/
def Obligations.FrameUnpacksToRawValues : Prop :=
  ∀ (d0 : Byte) (h t : Raw), unpackHumidity (frameOf d0 h t) = h ∧ unpackTemperature (frameOf d0 h t) = t

/-- 42_measurement.md section 1 (R143, derived there from the decision D9, log 13): the raw values lie in the two closed
ranges, for every configuration. -/
def Obligations.RawValuesInRange : Prop :=
  (∀ h : Humidity, 629146 ≤ (rawHumidity h).toNat ∧ (rawHumidity h).toNat ≤ 796918) ∧
  (∀ t : Temperature, 356516 ≤ (rawTemperature t).toNat ∧ (rawTemperature t).toNat ≤ 398459)

/-- 42_measurement.md section 1 (R141, R142, R144, with the decision D9, log 13): each raw value is the integer nearest to
the exact quotient, a tie going up, and the 20 bits lose nothing. -/
def Obligations.RawValuesAreNearest : Prop :=
  (∀ h : Humidity, ((rawHumidity h).toNat : Rat) - 1 / 2 ≤ h.percent * 1048576 / 100 ∧
    h.percent * 1048576 / 100 < ((rawHumidity h).toNat : Rat) + 1 / 2) ∧
  (∀ t : Temperature, ((rawTemperature t).toNat : Rat) - 1 / 2 ≤ (t.celsius + 50) * 1048576 / 200 ∧
    (t.celsius + 50) * 1048576 / 200 < ((rawTemperature t).toNat : Rat) + 1 / 2)

/-- 30_encoding.md section 5 (R83, with the decision D9, log 13: exact arithmetic, rounding to nearest): the physical
values are recovered to within half a raw step. -/
def Obligations.SensedValuesRecovered : Prop :=
  (∀ h : Humidity, |percentOfRaw (rawHumidity h) - h.percent| ≤ 50 / 1048576) ∧
  (∀ t : Temperature, |celsiusOfRaw (rawTemperature t) - t.celsius| ≤ 100 / 1048576)

/-! ## The checksum -/

/-- R162: the bit step on numbers: bit 7 tested and discarded, bit 0 zero before the exclusive-or. -/
def Obligations.CrcBitStepOnNumbers : Prop :=
  ∀ acc : Byte, (crcBitStep acc).toNat =
    if 128 ≤ acc.toNat then Nat.xor (2 * acc.toNat % 256) 0x31 else 2 * acc.toNat

/-- 43_crc8.md section 2 (R164 form a): the table that 95_test_vectors.md prints gives the checksum of every sequence. -/
def Obligations.CrcByTableIsCrc : Prop := ∀ bytes : List Byte, crc8ByTable bytes = crc8 bytes

/-- 43_crc8.md section 2 (R164 form b): the bit-serial register gives the checksum of every sequence. -/
def Obligations.CrcBySerialIsCrc : Prop := ∀ bytes : List Byte, crc8BySerial bytes = crc8 bytes

/-- 43_crc8.md section 2 (R165): the checksum of a sequence with its own checksum appended is 0. -/
def Obligations.CrcResidueIsZero : Prop := ∀ bytes : List Byte, crc8 (bytes ++ [crc8 bytes]) = 0#8

/-- 43_crc8.md section 1 (R160 to R162): two sequences that differ in one byte have different checksums. -/
def Obligations.CrcSeesOneByteError : Prop :=
  ∀ (before after : List Byte) (b c : Byte), crc8 (before ++ b :: after) = crc8 (before ++ c :: after) → b = c

/-! ## Reset and the invariants -/

/-- 70_reset_and_hazards.md section 1 and 10_state.md section 5 (R200, R36; `initialized` by D7, log 15; the refusal by
D10): construction within the ranges gives the start state, outside them nothing. -/
def Obligations.ConstructionResult : Prop :=
  ∀ hum temp : Rat,
    ((60 ≤ hum ∧ hum < 76) ∧ (18 ≤ temp ∧ temp < 26) →
      ∃ s, construct hum temp = .next s ∧ s.hum.percent = hum ∧ s.temp.celsius = temp ∧ s.initialized = false ∧
        s.measuring = false ∧ s.status = 0x18#8 ∧ s.readIndex = 0 ∧ s.writeIndex = 0) ∧
    (¬((60 ≤ hum ∧ hum < 76) ∧ (18 ≤ temp ∧ temp < 26)) →
      construct hum temp = .refused .configurationOutOfRange)

/-- 70_reset_and_hazards.md section 1 (R200): the reset state is the construction of some configuration. -/
def Obligations.ResetIsAConstruction : Prop := ∃ hum temp : Rat, construct hum temp = .next State.reset

/-- 10_state.md section 3 (R32, derived there): the reset state meets the invariant. -/
def Obligations.ResetMeetsInv : Prop := State.reset.Inv

/-- 10_state.md section 3 (R26, R32, derived there): every step from a state that meets the invariant meets it again. -/
def Obligations.StepKeepsInv : Prop := ∀ s t : State, s.Inv → step s = .next t → t.Inv

/-- 10_state.md section 3 (R32, derived there): every state that a trace of any instance reaches meets the invariant. -/
def Obligations.ReachableStatesMeetInv : Prop := ∀ s : State, Reachable s → s.Inv

/-- 10_state.md section 2 (R26, derived there) and 70_reset_and_hazards.md (R216): the busy bit is never seen set and the
calibration bit never clear. -/
def Obligations.BusyIsNeverSeen : Prop := ∀ s : State, Reachable s → busy s = false ∧ calibrated s = true

/-- 10_state.md section 2 (R26, derived there): a status poll, and the first byte of every frame, read 0x18. -/
def Obligations.StatusReadsDefault : Prop :=
  ∀ s : State, Reachable s → s.measuring = false ∨ s.readIndex = 0 →
    ∃ t, exec .readByte s = .next t ∧ t.output = .rdata 0x18#8

/-- 40_bus_events.md section 3 (R102, C7, C10; that 3 is not reached is derived in R32): every written byte of every trace
is acknowledged. -/
def Obligations.EveryWriteIsAcknowledged : Prop :=
  ∀ (data : Byte) (s : State), Reachable s →
    ∃ t, exec (.writeByte data) s = .next t ∧ t.output = .ack true

/-- R215: no event of any trace changes the sensed values, and every frame of one instance is the same seven bytes. -/
def Obligations.SensedValuesNeverChange : Prop :=
  ∀ (hum temp : Rat) (start : State) (es es' : List Event), construct hum temp = .next start →
    (runState es start).hum = start.hum ∧ (runState es start).temp = start.temp ∧
    ((runState es start).measuring = true → (runState es' start).measuring = true →
      (runState es start).readBuffer = (runState es' start).readBuffer)

/-! ## Who writes what -/

/-- 10_state.md section 2 (R24, R105): the only ways out of MEASURING and into it. That a WRITE_BYTE at a full command
buffer is none of them is the decision D6 (log 14). -/
def Obligations.OnlyTheseChangeMeasuring : Prop :=
  ∀ (e : Event) (s t : State), exec e.toInstr s = .next t →
    (s.measuring = true →
      (t.measuring = false ↔ (e = .readByte ∧ s.readIndex.val = 7) ∨ completes e s .softReset)) ∧
    (s.measuring = false → (t.measuring = true ↔ completes e s .trigger))

/-- 10_state.md section 2 (R28): the frame cursor is written only in MEASURING, by READ_BYTE and a matching CONNECT; no
command writes it. That a WRITE_BYTE at a full command buffer does not either is the decision D6 (log 14). -/
def Obligations.OnlyTheseWriteReadIndex : Prop :=
  (∀ (e : Event) (s t : State), exec e.toInstr s = .next t → t.readIndex ≠ s.readIndex →
    s.measuring = true ∧ (e = .readByte ∨ ∃ writeIntent, e = .connect 0x38 writeIntent)) ∧
  (∀ (c : Command) (s t : State), exec c.toInstr s = .next t → t.readIndex = s.readIndex)

/-- 10_state.md section 2 (R29, R30, R74): only WRITE_BYTE writes the command buffer and its cursor, so a partial command
survives every other event; a WRITE_BYTE either leaves the cursor at 0 or advances it by 1 and waits. That it leaves the
cursor at 0 where it finds it at 3 is the decision D6 (log 14). -/
def Obligations.OnlyWriteByteMovesTheCommand : Prop :=
  ∀ (e : Event) (s t : State), exec e.toInstr s = .next t →
    ((∀ data, e ≠ .writeByte data) → t.writeIndex = s.writeIndex ∧ t.writeBuffer = s.writeBuffer) ∧
    (∀ data, e = .writeByte data →
      t.writeIndex = 0 ∨ (t.writeIndex.val = s.writeIndex.val + 1 ∧ completes e s .wait))

/-- 10_state.md sections 1 and 2 (R20 to R27): who writes `initialized`, `status`, `readBuffer` and the sensed values. That
a WRITE_BYTE at a full command buffer writes none of them is the decision D6 (log 14). -/
def Obligations.OnlyTheseWriteTheRest : Prop :=
  ∀ (e : Event) (s t : State), exec e.toInstr s = .next t →
    t.hum = s.hum ∧ t.temp = s.temp ∧
    (t.readBuffer ≠ s.readBuffer → completes e s .trigger) ∧
    (t.initialized ≠ s.initialized → completes e s .softReset ∨ ∃ x y, completes e s (.init x y)) ∧
    (t.status ≠ s.status →
      (t.status = 0x18#8 ∧ (completes e s .softReset ∨ ∃ x y, completes e s (.init x y))) ∨
      (t.status = s.status &&& 0x7F#8 ∧
        (completes e s .trigger ∨ (e = .readByte ∧ s.measuring = true ∧ s.readIndex.val = 7))))

/-! ## Steps, words and traces -/

/-- 00_scope.md section 4 (R5, R6; the port form is the decision D2, the idle step log 3): a step takes one sample of the
ports, executes the event decoded from it, and changes nothing of the block where there is none. -/
def Obligations.StepRunsTheDecodedEvent : Prop :=
  (∀ (s : State) (p : Ports) (rest : List Ports) (w : EventWord), s.inbox = p :: rest → samplePorts p = .event w →
    (decodeEvent w).toInstr.wellFormed = true ∧
    step s = exec (decodeEvent w).toInstr { s with inbox := rest }) ∧
  (∀ (s : State) (p : Ports) (rest : List Ports), s.inbox = p :: rest → samplePorts p = .idle →
    step s = .next { s with inbox := rest, output := .nothing }) ∧
  (∀ s : State, s.inbox = [] → step s = .next { s with output := .nothing })

/-- 60_exceptions.md section 2 (R189) and 20_memory.md section 5 (R60, U9; the refusal is the decision D22, log 4): a step
stops exactly where a sample asserts more than one strobe. -/
def Obligations.StepStopsOnlyOnOverlap : Prop :=
  ∀ s : State, (∀ t, step s ≠ .next t) ↔
    ∃ p rest, s.inbox = p :: rest ∧
      2 ≤ p.evConnect.toNat + p.evRead.toNat + p.evWrite.toNat + p.evDisconnect.toNat

/-- 00_scope.md section 4 and 30_encoding.md section 1 (R6, R71, decisions D2 and D15, log 10): every event reaches the
machine through the ports and through its event word as it was. -/
def Obligations.PortsCarryTheEvent : Prop :=
  ∀ e : Event, e.wellFormed = true →
    samplePorts (portsOfEvent e) = .event (encodeEvent e) ∧ decodeEvent (encodeEvent e) = e

/-- 00_scope.md section 6 (R13) and 20_memory.md section 5 (R60; how a trace is placed is log 1): stepping through the
samples of a trace is applying its events in order. -/
def Obligations.StepsOfTheInboxAreTheTrace : Prop :=
  ∀ (es : List Event) (s : State), (∀ e ∈ es, e.wellFormed = true) → s.inbox = [] →
    Sys2Proof.core.run es.length { s with inbox := es.map portsOfEvent } = .next (runState es s)

/-- 30_encoding.md (R71, R73 to R75, D15; how a table word is placed is log 9, its lengths log 10): the next step runs the
instruction that the decoder reads from a table word. An event is executed as it stands. A command is executed inside the
WRITE_BYTE of its last byte, on the state in which exactly its bytes are stored and the cursor counts them. -/
def Obligations.TableWordRunsNext : Prop :=
  ∀ (s : State) (w : Nat) (i : Instr),
    ((decodeTableWord 16 w = some i → step (s.withFetchWord 16 w) = exec i s) ∧
      (decodeTableWord 10 w = some i → step (s.withFetchWord 10 w) = exec i s)) ∧
    (decodeTableWord 8 w = some i →
      step (s.withFetchWord 8 w) = exec (.writeByte (BitVec.ofNat 8 w)) { s with writeIndex := 0 } ∧
      ∃ t, exec i { s with writeBuffer := s.writeBuffer.set 0 (BitVec.ofNat 8 w), writeIndex := 1 } = .next t ∧
        step (s.withFetchWord 8 w) = .next { t with output := .ack true }) ∧
    (decodeTableWord 24 w = some i →
      step (s.withFetchWord 24 w) = exec (.writeByte (commandByte (BitVec.ofNat 24 w) 2)) { s with
        writeBuffer := (s.writeBuffer.set 0 (commandByte (BitVec.ofNat 24 w) 0)).set 1
          (commandByte (BitVec.ofNat 24 w) 1)
        writeIndex := 2 } ∧
      ∃ t, exec i { s with writeBuffer := commandBytes (BitVec.ofNat 24 w), writeIndex := 3 } = .next t ∧
        step (s.withFetchWord 24 w) = .next { t with output := .ack true }) ∧
    (decodeTableWord 0 w = some i →
      step (s.withFetchWord 0 w) = exec (.writeByte 0x00#8) { s with writeIndex := 0 } ∧
      ∃ t, exec i { s with writeBuffer := s.writeBuffer.set 0 0x00#8, writeIndex := 1 } = .next t ∧
        step (s.withFetchWord 0 w) = .next { t with output := .ack true }) ∧
    ∀ nbits, decodeTableWord nbits w = some i → nbits = 16 ∨ nbits = 10 ∨ nbits = 8 ∨ nbits = 24 ∨ nbits = 0

/-- 30_encoding.md (R71, R73, R75, R85; the words are the decision D15, log 10): decoding the encoding of a well-formed
instruction gives it back. -/
def Obligations.DecodeOfEncode : Prop := ∀ i : Instr, i.wellFormed = true → decode (encode i) = .ok i

/-- 30_encoding.md section 3 (R75, R77; the 24-bit word is the decision D15, log 10): every three-byte word is exactly one
command, and the encoder gives the word back: no bit is dropped and no word is reserved. -/
def Obligations.ThreeByteWordsAreOneToOne : Prop :=
  ∀ w : Nat, w < 2 ^ 24 → ∃ i, decode ⟨24, w⟩ = .ok i ∧ i.wellFormed = true ∧ encode i = ⟨24, w⟩

/-- 30_encoding.md section 1 (R71, D15, log 10): every ten-bit word is one event, and only the ignored bits of READ_BYTE
and DISCONNECT are lost. -/
def Obligations.EveryEventWordIsOneEvent : Prop :=
  ∀ w : EventWord, decode ⟨16, w.toNat⟩ = .ok (decodeEvent w).toInstr ∧ (decodeEvent w).wellFormed = true ∧
    (encode (decodeEvent w).toInstr = ⟨16, w.toNat⟩ ∨
      decodeEvent w = .readByte ∨ decodeEvent w = .disconnect)

/-- 95_test_vectors.md section 2.5 (words of the decision D15): words written out there decode to what they stand for. The
empty word of WAIT, the last clause, is no word of the spec but the model's choice (log 10). -/
def Obligations.WordsOfTheSpecDecode : Prop :=
  decodeTableWord 16 0x071 = some (.connect 0x38 true) ∧ decodeTableWord 16 0x072 = some (.connect 0x39 false) ∧
  decodeTableWord 16 0x100 = some .readByte ∧ decodeTableWord 16 0x2AC = some (.writeByte 0xAC#8) ∧
  decodeTableWord 16 0x300 = some .disconnect ∧ decodeTableWord 8 0xBA = some .softReset ∧
  decodeTableWord 24 0xBE0102 = some (.init 0x01#8 0x02#8) ∧ decodeTableWord 24 0x00AC33 = some .trigger ∧
  decodeTableWord 24 0xAC3300 = some (.unrecognized 0xAC#8 0x33#8 0x00#8) ∧ decodeTableWord 0 0 = some .wait

/-! ## Hazards and whole runs -/

/-- 70_reset_and_hazards.md section 3 (R211, derived there): three bytes 0xBA resynchronise every state, the unreachable
ones too, without clearing the frame cursor; two are not enough. From a full command buffer, `writeIndex` 3, it rests on
the decision D6 (log 14). -/
def Obligations.ResyncFromEveryState : Prop :=
  (∀ s : State,
    let u := runState [.writeByte 0xBA#8, .writeByte 0xBA#8, .writeByte 0xBA#8] s
    u.writeIndex = 0 ∧ u.measuring = false ∧ u.initialized = false ∧ u.status = 0x18#8 ∧ u.readIndex = s.readIndex) ∧
  ∃ s : State, s.Inv ∧ (runState [.writeByte 0xBA#8, .writeByte 0xBA#8] s).measuring = true

/-- 70_reset_and_hazards.md section 3 (R214, derived there): in a direction-consistent trace of any instance the frame
cursor is 0 in IDLE, and 0 whenever a TRIGGER completes. -/
def Obligations.DirectionConsistentCursorIsZero : Prop :=
  ∀ (hum temp : Rat) (start : State) (es : List Event), construct hum temp = .next start →
    directionConsistent Link.start es start = true →
    ((runState es start).measuring = false → (runState es start).readIndex = 0) ∧
    ∀ data : Byte, directionConsistent Link.start (es ++ [.writeByte data]) start = true →
      completes (.writeByte data) (runState es start) .trigger → (runState es start).readIndex = 0

/-- 70_reset_and_hazards.md section 3 (R212, derived there): seven reads deliver the frame and stay in MEASURING, a new
CONNECT delivers it again, the eighth read ends it, the ninth reads the status. -/
def Obligations.SevenReadsDoNotEndMeasuring : Prop :=
  ∀ s : State, s.measuring = true →
    let reads : List Event := .connect 0x38 false :: List.replicate 7 .readByte
    let u := runState reads s
    runOutputs reads s = .ack true :: s.readBuffer.toList.map .rdata ∧
    u.measuring = true ∧ u.readIndex.val = 7 ∧
    runOutputs reads u = runOutputs reads s ∧
    (runState [.readByte] u).measuring = false ∧ (runState [.readByte] u).readIndex = 0 ∧
    (runState [.readByte, .readByte] u).output = .rdata (s.status &&& 0x7F#8)

/-- 70_reset_and_hazards.md section 3 (R213, derived there): with no CONNECT between, a soft reset and a new trigger in
the middle of a frame go on at the stale position. -/
def Obligations.StaleFrameCursor : Prop :=
  ∀ (s : State) (i : Fin 7), s.Inv → s.writeIndex.val = 0 → s.measuring = true → s.readIndex.val = i.val →
    runOutputs [.writeByte 0xBA#8, .writeByte 0x00#8, .writeByte 0xAC#8, .writeByte 0x33#8, .readByte] s =
      [.ack true, .ack true, .ack true, .ack true,
        .rdata (frame (rawHumidity s.hum) (rawTemperature s.temp))[i]]

/-- 70_reset_and_hazards.md section 3 (R210): a byte left over from an abandoned transaction puts the next command out of
phase: no measurement is triggered, and the last byte waits as the first of another command. -/
def Obligations.DanglingByteLosesTheTrigger : Prop :=
  ∀ (s : State) (w w' : Bool), s.writeIndex.val = 0 →
    let es : List Event := [.connect 0x38 w, .writeByte 0x00#8, .disconnect, .connect 0x38 w', .writeByte 0x00#8,
      .writeByte 0xAC#8, .writeByte 0x33#8, .disconnect]
    let u := runState es s
    u.writeIndex.val = 1 ∧ u.writeBuffer = #v[0x33#8, 0x00#8, 0xAC#8] ∧ u.measuring = s.measuring ∧
    u.readBuffer = s.readBuffer ∧ u.initialized = s.initialized ∧ u.status = s.status ∧
    runOutputs es s = [.ack true, .ack true, .nothing, .ack true, .ack true, .ack true, .ack true, .nothing]

/-- 10_state.md sections 3 and 4 (R32 items 5 and 6, R35, derived there; R23, U4, U5): no output a controller may rely on
depends on `initialized`, on the frame buffer in IDLE, or on command bytes at and above the cursor, in any trace. So
nothing depends on the buffers' values at reset, which log 8 chose. At a full command buffer it rests on D6 (log 14). -/
def Obligations.HiddenStateIsInvisible : Prop :=
  ∀ (es : List Event) (s t : State), AgreeOnLive s t → runVisible es s = runVisible es t

/-- 20_memory.md section 6 and 60_exceptions.md section 1 (R62, R184, R101; decisions D12 and D17, log 16; FILLER is open,
D5, log 6): a READ_BYTE at the end of a trace is labelled SpuriousRead exactly when no CONNECT to 0x38 precedes it with
only byte events between, and no other event ever is; a well-formed trace has no such label; and the block answers a
READ_BYTE by R101 after every trace, spurious or not: the status in IDLE, the next frame byte with the cursor advanced in
MEASURING, the end of the frame at cursor 7. -/
def Obligations.SpuriousReadLabelAndEffect : Prop :=
  (∀ (es : List Event) (s : State),
    (runLabels Link.start (es ++ [.readByte]) s).getLast? = some (some .spuriousRead) ↔
      ¬∃ (before after : List Event) (writeIntent : Bool), es = before ++ .connect 0x38 writeIntent :: after ∧
        ∀ e ∈ after, e = .readByte ∨ ∃ data, e = .writeByte data) ∧
  (∀ (l : Link) (e : Event) (s : State), e ≠ .readByte → eventLabel l e s ≠ some .spuriousRead) ∧
  (∀ (es : List Event) (l : Link) (s : State), wellFormedTrace l es s = true →
    some Condition.spuriousRead ∉ runLabels l es s) ∧
  ∀ (es : List Event) (s u : State), runState es s = u →
    (u.measuring = false → runState (es ++ [.readByte]) s = { u with output := .rdata u.status }) ∧
    (∀ i : Fin 7, u.measuring = true → u.readIndex.val = i.val →
      runState (es ++ [.readByte]) s = { u with output := .rdata u.readBuffer[i], readIndex := i.succ }) ∧
    (u.measuring = true → u.readIndex.val = 7 → ∃ (filler : Byte) (count : Nat),
      runState (es ++ [.readByte]) s = { u with
        output := .rdata filler
        fillerCount := count
        measuring := false
        readIndex := 0
        status := u.status &&& 0x7F#8 })

/-- 70_reset_and_hazards.md sections 2 and 3 and 30_encoding.md sections 5 and 6 (R203, R211, R83, R84, derived there; the
raw values by D9, log 13): from every state that any trace of any instance leaves, RESYNC, TRIGGER and READ 7 deliver a frame whose status byte is 0x18, whose checksum is right,
and which decodes to the sensed values within half a raw step. -/
def Obligations.ControllerReadsTheSensedValues : Prop :=
  ∀ (hum temp : Rat) (start : State) (es : List Event), construct hum temp = .next start →
    ∃ f : Vector Byte 7,
      runOutputs (opResync ++ opTrigger ++ opRead 7) (runState es start) =
        [.ack true, .ack true, .ack true, .ack true, .nothing, .ack true, .ack true, .ack true, .ack true, .nothing,
          .ack true] ++ f.toList.map .rdata ++ [.nothing] ∧
      f[0] = 0x18#8 ∧ crc8 [f[0], f[1], f[2], f[3], f[4], f[5]] = f[6] ∧
      |percentOfRaw (unpackHumidity f) - hum| ≤ 50 / 1048576 ∧
      |celsiusOfRaw (unpackTemperature f) - temp| ≤ 100 / 1048576

/-! ## The steps behind the statements about traces -/

/-- 70_reset_and_hazards.md section 3 (R214, derived there; the ghost is D12, log 16): construction meets the cursor rule. -/
def Obligations.ConstructionMeetsCursorRule : Prop :=
  ∀ (hum temp : Rat) (start : State), construct hum temp = .next start → CursorRule Link.start start

/-- 70_reset_and_hazards.md section 3 (R214, the step of the proof given there; the ghost is D12, log 16): every event that
the transport contract allows, in the direction of the open transaction, keeps the frame cursor at 0 in IDLE and in an
open write transaction. -/
def Obligations.EventKeepsCursorRule : Prop :=
  ∀ (l : Link) (e : Event) (s t : State), CursorRule l s → l.allows e = true → l.inDirection e = true →
    exec e.toInstr s = .next t → CursorRule (l.after e t) t

/-- 10_state.md sections 3 and 4 (R32 items 5 and 6, R35, derived there; at a full command buffer by D6, log 14): every
event takes two states that agree on everything live to two states that agree again, with the same output unless the
event is the read that returns FILLER, and it is that read in both or in neither. -/
def Obligations.EventKeepsAgreement : Prop :=
  ∀ (e : Event) (s t : State), AgreeOnLive s t →
    ∃ s' t', exec e.toInstr s = .next s' ∧ exec e.toInstr t = .next t' ∧ AgreeOnLive s' t' ∧
      readsFiller e s = readsFiller e t ∧ (readsFiller e s = false → s'.output = t'.output)
end

