-- ==== Sys2Proof/Laws/State.lean ====
section
/-! SUPPORT. One lemma per field per named update, each true by `rfl`, so that no later proof unfolds a record update. -/

namespace Sys2Proof.Machine

@[simp] theorem setInitialized_hum (v : Bool) (s : State) : (setInitialized v s).hum = s.hum := rfl
@[simp] theorem setInitialized_temp (v : Bool) (s : State) : (setInitialized v s).temp = s.temp := rfl
@[simp] theorem setInitialized_initialized (v : Bool) (s : State) : (setInitialized v s).initialized = v := rfl
@[simp] theorem setInitialized_measuring (v : Bool) (s : State) : (setInitialized v s).measuring = s.measuring := rfl
@[simp] theorem setInitialized_status (v : Bool) (s : State) : (setInitialized v s).status = s.status := rfl
@[simp] theorem setInitialized_readBuffer (v : Bool) (s : State) : (setInitialized v s).readBuffer = s.readBuffer := rfl
@[simp] theorem setInitialized_readIndex (v : Bool) (s : State) : (setInitialized v s).readIndex = s.readIndex := rfl
@[simp] theorem setInitialized_writeBuffer (v : Bool) (s : State) : (setInitialized v s).writeBuffer = s.writeBuffer := rfl
@[simp] theorem setInitialized_writeIndex (v : Bool) (s : State) : (setInitialized v s).writeIndex = s.writeIndex := rfl
@[simp] theorem setInitialized_output (v : Bool) (s : State) : (setInitialized v s).output = s.output := rfl
@[simp] theorem setInitialized_inbox (v : Bool) (s : State) : (setInitialized v s).inbox = s.inbox := rfl
@[simp] theorem setInitialized_fillerCount (v : Bool) (s : State) : (setInitialized v s).fillerCount = s.fillerCount := rfl

@[simp] theorem setMeasuring_hum (v : Bool) (s : State) : (setMeasuring v s).hum = s.hum := rfl
@[simp] theorem setMeasuring_temp (v : Bool) (s : State) : (setMeasuring v s).temp = s.temp := rfl
@[simp] theorem setMeasuring_initialized (v : Bool) (s : State) : (setMeasuring v s).initialized = s.initialized := rfl
@[simp] theorem setMeasuring_measuring (v : Bool) (s : State) : (setMeasuring v s).measuring = v := rfl
@[simp] theorem setMeasuring_status (v : Bool) (s : State) : (setMeasuring v s).status = s.status := rfl
@[simp] theorem setMeasuring_readBuffer (v : Bool) (s : State) : (setMeasuring v s).readBuffer = s.readBuffer := rfl
@[simp] theorem setMeasuring_readIndex (v : Bool) (s : State) : (setMeasuring v s).readIndex = s.readIndex := rfl
@[simp] theorem setMeasuring_writeBuffer (v : Bool) (s : State) : (setMeasuring v s).writeBuffer = s.writeBuffer := rfl
@[simp] theorem setMeasuring_writeIndex (v : Bool) (s : State) : (setMeasuring v s).writeIndex = s.writeIndex := rfl
@[simp] theorem setMeasuring_output (v : Bool) (s : State) : (setMeasuring v s).output = s.output := rfl
@[simp] theorem setMeasuring_inbox (v : Bool) (s : State) : (setMeasuring v s).inbox = s.inbox := rfl
@[simp] theorem setMeasuring_fillerCount (v : Bool) (s : State) : (setMeasuring v s).fillerCount = s.fillerCount := rfl

@[simp] theorem setStatus_hum (v : Byte) (s : State) : (setStatus v s).hum = s.hum := rfl
@[simp] theorem setStatus_temp (v : Byte) (s : State) : (setStatus v s).temp = s.temp := rfl
@[simp] theorem setStatus_initialized (v : Byte) (s : State) : (setStatus v s).initialized = s.initialized := rfl
@[simp] theorem setStatus_measuring (v : Byte) (s : State) : (setStatus v s).measuring = s.measuring := rfl
@[simp] theorem setStatus_status (v : Byte) (s : State) : (setStatus v s).status = v := rfl
@[simp] theorem setStatus_readBuffer (v : Byte) (s : State) : (setStatus v s).readBuffer = s.readBuffer := rfl
@[simp] theorem setStatus_readIndex (v : Byte) (s : State) : (setStatus v s).readIndex = s.readIndex := rfl
@[simp] theorem setStatus_writeBuffer (v : Byte) (s : State) : (setStatus v s).writeBuffer = s.writeBuffer := rfl
@[simp] theorem setStatus_writeIndex (v : Byte) (s : State) : (setStatus v s).writeIndex = s.writeIndex := rfl
@[simp] theorem setStatus_output (v : Byte) (s : State) : (setStatus v s).output = s.output := rfl
@[simp] theorem setStatus_inbox (v : Byte) (s : State) : (setStatus v s).inbox = s.inbox := rfl
@[simp] theorem setStatus_fillerCount (v : Byte) (s : State) : (setStatus v s).fillerCount = s.fillerCount := rfl

@[simp] theorem setReadBuffer_hum (v : Vector Byte 7) (s : State) : (setReadBuffer v s).hum = s.hum := rfl
@[simp] theorem setReadBuffer_temp (v : Vector Byte 7) (s : State) : (setReadBuffer v s).temp = s.temp := rfl
@[simp] theorem setReadBuffer_initialized (v : Vector Byte 7) (s : State) : (setReadBuffer v s).initialized = s.initialized := rfl
@[simp] theorem setReadBuffer_measuring (v : Vector Byte 7) (s : State) : (setReadBuffer v s).measuring = s.measuring := rfl
@[simp] theorem setReadBuffer_status (v : Vector Byte 7) (s : State) : (setReadBuffer v s).status = s.status := rfl
@[simp] theorem setReadBuffer_readBuffer (v : Vector Byte 7) (s : State) : (setReadBuffer v s).readBuffer = v := rfl
@[simp] theorem setReadBuffer_readIndex (v : Vector Byte 7) (s : State) : (setReadBuffer v s).readIndex = s.readIndex := rfl
@[simp] theorem setReadBuffer_writeBuffer (v : Vector Byte 7) (s : State) : (setReadBuffer v s).writeBuffer = s.writeBuffer := rfl
@[simp] theorem setReadBuffer_writeIndex (v : Vector Byte 7) (s : State) : (setReadBuffer v s).writeIndex = s.writeIndex := rfl
@[simp] theorem setReadBuffer_output (v : Vector Byte 7) (s : State) : (setReadBuffer v s).output = s.output := rfl
@[simp] theorem setReadBuffer_inbox (v : Vector Byte 7) (s : State) : (setReadBuffer v s).inbox = s.inbox := rfl
@[simp] theorem setReadBuffer_fillerCount (v : Vector Byte 7) (s : State) : (setReadBuffer v s).fillerCount = s.fillerCount := rfl

@[simp] theorem setReadIndex_hum (v : Fin 8) (s : State) : (setReadIndex v s).hum = s.hum := rfl
@[simp] theorem setReadIndex_temp (v : Fin 8) (s : State) : (setReadIndex v s).temp = s.temp := rfl
@[simp] theorem setReadIndex_initialized (v : Fin 8) (s : State) : (setReadIndex v s).initialized = s.initialized := rfl
@[simp] theorem setReadIndex_measuring (v : Fin 8) (s : State) : (setReadIndex v s).measuring = s.measuring := rfl
@[simp] theorem setReadIndex_status (v : Fin 8) (s : State) : (setReadIndex v s).status = s.status := rfl
@[simp] theorem setReadIndex_readBuffer (v : Fin 8) (s : State) : (setReadIndex v s).readBuffer = s.readBuffer := rfl
@[simp] theorem setReadIndex_readIndex (v : Fin 8) (s : State) : (setReadIndex v s).readIndex = v := rfl
@[simp] theorem setReadIndex_writeBuffer (v : Fin 8) (s : State) : (setReadIndex v s).writeBuffer = s.writeBuffer := rfl
@[simp] theorem setReadIndex_writeIndex (v : Fin 8) (s : State) : (setReadIndex v s).writeIndex = s.writeIndex := rfl
@[simp] theorem setReadIndex_output (v : Fin 8) (s : State) : (setReadIndex v s).output = s.output := rfl
@[simp] theorem setReadIndex_inbox (v : Fin 8) (s : State) : (setReadIndex v s).inbox = s.inbox := rfl
@[simp] theorem setReadIndex_fillerCount (v : Fin 8) (s : State) : (setReadIndex v s).fillerCount = s.fillerCount := rfl

@[simp] theorem setWriteBuffer_hum (v : Vector Byte 3) (s : State) : (setWriteBuffer v s).hum = s.hum := rfl
@[simp] theorem setWriteBuffer_temp (v : Vector Byte 3) (s : State) : (setWriteBuffer v s).temp = s.temp := rfl
@[simp] theorem setWriteBuffer_initialized (v : Vector Byte 3) (s : State) : (setWriteBuffer v s).initialized = s.initialized := rfl
@[simp] theorem setWriteBuffer_measuring (v : Vector Byte 3) (s : State) : (setWriteBuffer v s).measuring = s.measuring := rfl
@[simp] theorem setWriteBuffer_status (v : Vector Byte 3) (s : State) : (setWriteBuffer v s).status = s.status := rfl
@[simp] theorem setWriteBuffer_readBuffer (v : Vector Byte 3) (s : State) : (setWriteBuffer v s).readBuffer = s.readBuffer := rfl
@[simp] theorem setWriteBuffer_readIndex (v : Vector Byte 3) (s : State) : (setWriteBuffer v s).readIndex = s.readIndex := rfl
@[simp] theorem setWriteBuffer_writeBuffer (v : Vector Byte 3) (s : State) : (setWriteBuffer v s).writeBuffer = v := rfl
@[simp] theorem setWriteBuffer_writeIndex (v : Vector Byte 3) (s : State) : (setWriteBuffer v s).writeIndex = s.writeIndex := rfl
@[simp] theorem setWriteBuffer_output (v : Vector Byte 3) (s : State) : (setWriteBuffer v s).output = s.output := rfl
@[simp] theorem setWriteBuffer_inbox (v : Vector Byte 3) (s : State) : (setWriteBuffer v s).inbox = s.inbox := rfl
@[simp] theorem setWriteBuffer_fillerCount (v : Vector Byte 3) (s : State) : (setWriteBuffer v s).fillerCount = s.fillerCount := rfl

@[simp] theorem setWriteIndex_hum (v : Fin 4) (s : State) : (setWriteIndex v s).hum = s.hum := rfl
@[simp] theorem setWriteIndex_temp (v : Fin 4) (s : State) : (setWriteIndex v s).temp = s.temp := rfl
@[simp] theorem setWriteIndex_initialized (v : Fin 4) (s : State) : (setWriteIndex v s).initialized = s.initialized := rfl
@[simp] theorem setWriteIndex_measuring (v : Fin 4) (s : State) : (setWriteIndex v s).measuring = s.measuring := rfl
@[simp] theorem setWriteIndex_status (v : Fin 4) (s : State) : (setWriteIndex v s).status = s.status := rfl
@[simp] theorem setWriteIndex_readBuffer (v : Fin 4) (s : State) : (setWriteIndex v s).readBuffer = s.readBuffer := rfl
@[simp] theorem setWriteIndex_readIndex (v : Fin 4) (s : State) : (setWriteIndex v s).readIndex = s.readIndex := rfl
@[simp] theorem setWriteIndex_writeBuffer (v : Fin 4) (s : State) : (setWriteIndex v s).writeBuffer = s.writeBuffer := rfl
@[simp] theorem setWriteIndex_writeIndex (v : Fin 4) (s : State) : (setWriteIndex v s).writeIndex = v := rfl
@[simp] theorem setWriteIndex_output (v : Fin 4) (s : State) : (setWriteIndex v s).output = s.output := rfl
@[simp] theorem setWriteIndex_inbox (v : Fin 4) (s : State) : (setWriteIndex v s).inbox = s.inbox := rfl
@[simp] theorem setWriteIndex_fillerCount (v : Fin 4) (s : State) : (setWriteIndex v s).fillerCount = s.fillerCount := rfl

@[simp] theorem setOutput_hum (v : Output) (s : State) : (setOutput v s).hum = s.hum := rfl
@[simp] theorem setOutput_temp (v : Output) (s : State) : (setOutput v s).temp = s.temp := rfl
@[simp] theorem setOutput_initialized (v : Output) (s : State) : (setOutput v s).initialized = s.initialized := rfl
@[simp] theorem setOutput_measuring (v : Output) (s : State) : (setOutput v s).measuring = s.measuring := rfl
@[simp] theorem setOutput_status (v : Output) (s : State) : (setOutput v s).status = s.status := rfl
@[simp] theorem setOutput_readBuffer (v : Output) (s : State) : (setOutput v s).readBuffer = s.readBuffer := rfl
@[simp] theorem setOutput_readIndex (v : Output) (s : State) : (setOutput v s).readIndex = s.readIndex := rfl
@[simp] theorem setOutput_writeBuffer (v : Output) (s : State) : (setOutput v s).writeBuffer = s.writeBuffer := rfl
@[simp] theorem setOutput_writeIndex (v : Output) (s : State) : (setOutput v s).writeIndex = s.writeIndex := rfl
@[simp] theorem setOutput_output (v : Output) (s : State) : (setOutput v s).output = v := rfl
@[simp] theorem setOutput_inbox (v : Output) (s : State) : (setOutput v s).inbox = s.inbox := rfl
@[simp] theorem setOutput_fillerCount (v : Output) (s : State) : (setOutput v s).fillerCount = s.fillerCount := rfl

@[simp] theorem setInbox_hum (v : List Ports) (s : State) : (setInbox v s).hum = s.hum := rfl
@[simp] theorem setInbox_temp (v : List Ports) (s : State) : (setInbox v s).temp = s.temp := rfl
@[simp] theorem setInbox_initialized (v : List Ports) (s : State) : (setInbox v s).initialized = s.initialized := rfl
@[simp] theorem setInbox_measuring (v : List Ports) (s : State) : (setInbox v s).measuring = s.measuring := rfl
@[simp] theorem setInbox_status (v : List Ports) (s : State) : (setInbox v s).status = s.status := rfl
@[simp] theorem setInbox_readBuffer (v : List Ports) (s : State) : (setInbox v s).readBuffer = s.readBuffer := rfl
@[simp] theorem setInbox_readIndex (v : List Ports) (s : State) : (setInbox v s).readIndex = s.readIndex := rfl
@[simp] theorem setInbox_writeBuffer (v : List Ports) (s : State) : (setInbox v s).writeBuffer = s.writeBuffer := rfl
@[simp] theorem setInbox_writeIndex (v : List Ports) (s : State) : (setInbox v s).writeIndex = s.writeIndex := rfl
@[simp] theorem setInbox_output (v : List Ports) (s : State) : (setInbox v s).output = s.output := rfl
@[simp] theorem setInbox_inbox (v : List Ports) (s : State) : (setInbox v s).inbox = v := rfl
@[simp] theorem setInbox_fillerCount (v : List Ports) (s : State) : (setInbox v s).fillerCount = s.fillerCount := rfl

@[simp] theorem setFillerCount_hum (v : Nat) (s : State) : (setFillerCount v s).hum = s.hum := rfl
@[simp] theorem setFillerCount_temp (v : Nat) (s : State) : (setFillerCount v s).temp = s.temp := rfl
@[simp] theorem setFillerCount_initialized (v : Nat) (s : State) : (setFillerCount v s).initialized = s.initialized := rfl
@[simp] theorem setFillerCount_measuring (v : Nat) (s : State) : (setFillerCount v s).measuring = s.measuring := rfl
@[simp] theorem setFillerCount_status (v : Nat) (s : State) : (setFillerCount v s).status = s.status := rfl
@[simp] theorem setFillerCount_readBuffer (v : Nat) (s : State) : (setFillerCount v s).readBuffer = s.readBuffer := rfl
@[simp] theorem setFillerCount_readIndex (v : Nat) (s : State) : (setFillerCount v s).readIndex = s.readIndex := rfl
@[simp] theorem setFillerCount_writeBuffer (v : Nat) (s : State) : (setFillerCount v s).writeBuffer = s.writeBuffer := rfl
@[simp] theorem setFillerCount_writeIndex (v : Nat) (s : State) : (setFillerCount v s).writeIndex = s.writeIndex := rfl
@[simp] theorem setFillerCount_output (v : Nat) (s : State) : (setFillerCount v s).output = s.output := rfl
@[simp] theorem setFillerCount_inbox (v : Nat) (s : State) : (setFillerCount v s).inbox = s.inbox := rfl
@[simp] theorem setFillerCount_fillerCount (v : Nat) (s : State) : (setFillerCount v s).fillerCount = v := rfl

@[simp] theorem setInbox_self (s : State) : setInbox s.inbox s = s := rfl

@[simp] theorem setInbox_setInbox (u v : List Ports) (s : State) : setInbox u (setInbox v s) = setInbox u s := rfl

@[simp] theorem setOutput_setOutput (u v : Output) (s : State) : setOutput u (setOutput v s) = setOutput u s := rfl

end Sys2Proof.Machine
end

