-- ==== Sys2Proof/Laws/Operands.lean ====
section
/-! SUPPORT. What the two cursors and the buffer accesses do, said once. -/

namespace Sys2Proof.Machine

theorem frameIndex_eq_some {s : State} {i : Fin 7} : frameIndex s = some i ↔ s.readIndex = i.castSucc := by
  unfold frameIndex
  split
  · rw [Option.some_inj, Fin.ext_iff, Fin.ext_iff]
    exact Iff.rfl
  · rename_i h
    simp only [reduceCtorEq, false_iff]
    rintro hi
    exact h (by rw [hi]; exact i.isLt)

theorem frameIndex_eq_none {s : State} : frameIndex s = none ↔ s.readIndex = 7 := by
  unfold frameIndex
  split
  · rename_i h
    simp only [reduceCtorEq, false_iff]
    intro h7
    rw [h7] at h
    exact absurd h (by decide)
  · rename_i h
    simp only [true_iff]
    exact Fin.ext (show s.readIndex.val = 7 by have := s.readIndex.isLt; omega)

theorem commandIndex_eq_some {s : State} {i : Fin 3} : commandIndex s = some i ↔ s.writeIndex = i.castSucc := by
  unfold commandIndex
  split
  · rw [Option.some_inj, Fin.ext_iff, Fin.ext_iff]
    exact Iff.rfl
  · rename_i h
    simp only [reduceCtorEq, false_iff]
    rintro hi
    exact h (by rw [hi]; exact i.isLt)

theorem commandIndex_eq_none {s : State} : commandIndex s = none ↔ s.writeIndex = 3 := by
  unfold commandIndex
  split
  · rename_i h
    simp only [reduceCtorEq, false_iff]
    intro h3
    rw [h3] at h
    exact absurd h (by decide)
  · rename_i h
    simp only [true_iff]
    exact Fin.ext (show s.writeIndex.val = 3 by have := s.writeIndex.isLt; omega)

/-- A cursor either has an effective index, which is its own value, or stands at its maximum. -/
theorem frameIndex_cases (s : State) :
    (∃ i : Fin 7, frameIndex s = some i ∧ s.readIndex = i.castSucc) ∨ (frameIndex s = none ∧ s.readIndex = 7) := by
  cases h : frameIndex s with
  | none => exact .inr ⟨rfl, frameIndex_eq_none.mp h⟩
  | some i => exact .inl ⟨i, rfl, frameIndex_eq_some.mp h⟩

theorem commandIndex_cases (s : State) :
    (∃ i : Fin 3, commandIndex s = some i ∧ s.writeIndex = i.castSucc) ∨
      (commandIndex s = none ∧ s.writeIndex = 3) := by
  cases h : commandIndex s with
  | none => exact .inr ⟨rfl, commandIndex_eq_none.mp h⟩
  | some i => exact .inl ⟨i, rfl, commandIndex_eq_some.mp h⟩

/-- A byte of the command buffer after a write at `i`: the stored byte there, every other byte as before. -/
theorem memWrite_getElem (i j : Fin 3) (v : Byte) (s : State) :
    (memWrite i v s).writeBuffer[j] = if i = j then v else s.writeBuffer[j] := by
  simp [memWrite, Vector.getElem_set, Fin.ext_iff]

/-- A frame byte after a write at `i`: the stored byte there, every other byte as before. -/
theorem setFrameByte_memRead (i j : Fin 7) (v : Byte) (s : State) :
    memRead j (setFrameByte i v s) = if i = j then v else memRead j s := by
  simp [memRead, setFrameByte, Vector.getElem_set, Fin.ext_iff]

/-! The first half of WRITE_BYTE writes the cursor and one byte, and nothing else. -/

@[simp] theorem storeByte_hum (i : Fin 3) (data : Byte) (s : State) :
    (storeByte i data s).hum = s.hum := rfl

@[simp] theorem storeByte_temp (i : Fin 3) (data : Byte) (s : State) :
    (storeByte i data s).temp = s.temp := rfl

@[simp] theorem storeByte_initialized (i : Fin 3) (data : Byte) (s : State) :
    (storeByte i data s).initialized = s.initialized := rfl

@[simp] theorem storeByte_measuring (i : Fin 3) (data : Byte) (s : State) :
    (storeByte i data s).measuring = s.measuring := rfl

@[simp] theorem storeByte_status (i : Fin 3) (data : Byte) (s : State) :
    (storeByte i data s).status = s.status := rfl

@[simp] theorem storeByte_readBuffer (i : Fin 3) (data : Byte) (s : State) :
    (storeByte i data s).readBuffer = s.readBuffer := rfl

@[simp] theorem storeByte_readIndex (i : Fin 3) (data : Byte) (s : State) :
    (storeByte i data s).readIndex = s.readIndex := rfl

@[simp] theorem storeByte_writeBuffer (i : Fin 3) (data : Byte) (s : State) :
    (storeByte i data s).writeBuffer = s.writeBuffer.set i data := rfl

@[simp] theorem storeByte_writeIndex (i : Fin 3) (data : Byte) (s : State) :
    (storeByte i data s).writeIndex = i.succ := rfl

@[simp] theorem storeByte_output (i : Fin 3) (data : Byte) (s : State) :
    (storeByte i data s).output = s.output := rfl

@[simp] theorem storeByte_inbox (i : Fin 3) (data : Byte) (s : State) :
    (storeByte i data s).inbox = s.inbox := rfl

@[simp] theorem storeByte_fillerCount (i : Fin 3) (data : Byte) (s : State) :
    (storeByte i data s).fillerCount = s.fillerCount := rfl

end Sys2Proof.Machine
end

