-- ==== Sys2Proof/Laws/Commands.lean ====
section
/-! SUPPORT. When the decoder finds which command, and what each command writes, said once. -/

namespace Sys2Proof.Machine

theorem decodeCommand_one (data : Byte) (buffer : Vector Byte 3) :
    decodeCommand 1 data buffer = if data = Config.cmdSoftReset then .softReset else .wait := by
  simp [decodeCommand]

theorem decodeCommand_two (data : Byte) (buffer : Vector Byte 3) : decodeCommand 2 data buffer = .wait := by
  simp [decodeCommand]

theorem decodeCommand_three (data : Byte) (buffer : Vector Byte 3) :
    decodeCommand 3 data buffer =
      if buffer[0] = Config.cmdInit then .init buffer[1] buffer[2]
      else if buffer[0] = Config.cmdTrigger0 ∧ buffer[1] = Config.cmdTrigger1 ∧ buffer[2] = Config.cmdTrigger2 then
        .trigger
      else .unrecognized buffer[0] buffer[1] buffer[2] := by
  simp [decodeCommand]

/-- The same with the three bytes named. -/
theorem decodeCommand_three_bytes (data b0 b1 b2 : Byte) :
    decodeCommand 3 data #v[b0, b1, b2] =
      if b0 = Config.cmdInit then .init b1 b2
      else if b0 = Config.cmdTrigger0 ∧ b1 = Config.cmdTrigger1 ∧ b2 = Config.cmdTrigger2 then .trigger
      else .unrecognized b0 b1 b2 := decodeCommand_three data #v[b0, b1, b2]

/-- With three bytes in the buffer the decoder always finds a command that flushes the cursor (R120). -/
theorem decodeCommand_three_cases (data : Byte) (buffer : Vector Byte 3) :
    decodeCommand 3 data buffer = .init buffer[1] buffer[2] ∨ decodeCommand 3 data buffer = .trigger ∨
      decodeCommand 3 data buffer = .unrecognized buffer[0] buffer[1] buffer[2] := by
  rw [decodeCommand_three]
  split
  · exact .inl rfl
  · split
    · exact .inr (.inl rfl)
    · exact .inr (.inr rfl)

theorem clear_after_set_busy (b : Byte) :
    (b ||| Config.statusBusy) &&& ~~~Config.statusBusy = b &&& ~~~Config.statusBusy := by
  rw [BitVec.and_comm, BitVec.and_or_distrib_left, BitVec.and_comm _ Config.statusBusy, BitVec.and_comm b]
  have h : Config.statusBusy &&& ~~~Config.statusBusy = 0#8 := by decide
  rw [h, BitVec.or_zero]

/-- Seven writes at seven indices leave the seven written bytes. -/
theorem seven_sets (v : Vector Byte 7) (a b c d e f g : Byte) :
    ((((((v.set 0 a).set 1 b).set 2 c).set 3 d).set 4 e).set 5 f).set 6 g = #v[a, b, c, d, e, f, g] := by
  ext i hi
  match i, hi with
  | 0, _ | 1, _ | 2, _ | 3, _ | 4, _ | 5, _ | 6, _ => simp

/-- The packing steps on the buffer alone, for any function as the checksum (R146 to R148). -/
theorem packed_bytes (c : List Byte → Byte) (v : Vector Byte 7) (d0 d1 d2 d3 d4 d5 : Byte) :
    ((((((v.set 0 d0).set 1 d1).set 2 d2).set 3 d3).set 4 d4).set 5 d5).set 6
        (c (checkedBytes ((((((v.set 0 d0).set 1 d1).set 2 d2).set 3 d3).set 4 d4).set 5 d5))) =
      #v[d0, d1, d2, d3, d4, d5, c [d0, d1, d2, d3, d4, d5]] := by
  have h : checkedBytes ((((((v.set 0 d0).set 1 d1).set 2 d2).set 3 d3).set 4 d4).set 5 d5) =
      [d0, d1, d2, d3, d4, d5] := by
    simp [checkedBytes]
  rw [h]
  exact seven_sets v d0 d1 d2 d3 d4 d5 _

/-- A frame byte written over a written buffer is one write of the buffer. -/
theorem setFrameByte_over (i : Fin 7) (x : Byte) (v : Vector Byte 7) (s : State) :
    setFrameByte i x (setReadBuffer v s) = setReadBuffer (v.set i x) s := rfl

theorem packChecksum_over (v : Vector Byte 7) (s : State) :
    packChecksum (setReadBuffer v s) = setReadBuffer (v.set 6 (crc8 (checkedBytes v))) s := rfl

/-- The packing steps 5 and 6 as one update (R146 to R148). -/
theorem pack_eq (h t : Raw) (s : State) :
    packChecksum (packData h t (packStatus s)) = setReadBuffer (frameOf s.status h t) s := by
  rw [show packStatus s = setReadBuffer (s.readBuffer.set 0 s.status) s from rfl]
  unfold packData
  rw [setFrameByte_over, setFrameByte_over, setFrameByte_over, setFrameByte_over, setFrameByte_over,
    packChecksum_over]
  exact congrArg (setReadBuffer · s) (packed_bytes crc8 s.readBuffer s.status (humidityHigh h) (humidityMid h)
    (sharedNibbles h t) (temperatureMid t) (temperatureLow t))

/-- The Measurement Algorithm as one update, from any state (R150). -/
theorem measure_eq (s : State) :
    measure s =
      { s with
        status := s.status &&& ~~~Config.statusBusy
        readBuffer := frameOf (s.status &&& ~~~Config.statusBusy) (rawHumidity s.hum) (rawTemperature s.temp)
        measuring := true } := by
  have h : clearBusy (setBusy s) = { s with status := s.status &&& ~~~Config.statusBusy } :=
    congrArg (fun v : Byte => ({ s with status := v } : State)) (clear_after_set_busy s.status)
  unfold measure
  rw [h, pack_eq]
  rfl

/-- What each command writes, and nothing else (R121 to R125). -/
theorem runCommand_cases (c : Command) (s : State) :
    (c = .softReset ∧ runCommand c s =
        { s with initialized := false, measuring := false, status := Config.statusDefault, writeIndex := 0 }) ∨
    (∃ x y, c = .init x y ∧ runCommand c s =
        { s with initialized := true, status := Config.statusDefault, writeIndex := 0 }) ∨
    (c = .trigger ∧ runCommand c s =
        { s with
          status := s.status &&& ~~~Config.statusBusy
          readBuffer := frameOf (s.status &&& ~~~Config.statusBusy) (rawHumidity s.hum) (rawTemperature s.temp)
          measuring := true
          writeIndex := 0 }) ∨
    (∃ b0 b1 b2, c = .unrecognized b0 b1 b2 ∧ runCommand c s = { s with writeIndex := 0 }) ∨
    (c = .wait ∧ runCommand c s = s) := by
  cases c with
  | softReset => exact .inl ⟨rfl, rfl⟩
  | init x y => exact .inr (.inl ⟨x, y, rfl, rfl⟩)
  | trigger =>
    refine .inr (.inr (.inl ⟨rfl, ?_⟩))
    show setWriteIndex 0 (measure s) = _
    rw [measure_eq]
    rfl
  | unrecognized b0 b1 b2 => exact .inr (.inr (.inr (.inl ⟨b0, b1, b2, rfl, rfl⟩)))
  | wait => exact .inr (.inr (.inr (.inr ⟨rfl, rfl⟩)))

end Sys2Proof.Machine
end

