-- ==== Sys2Proof/Laws/Decode.lean ====
section
/-! SUPPORT. The bytes of a three-byte command word, and what the decoder does with a table word of each format. -/

namespace Sys2Proof

theorem commandWord_getLsbD (b0 b1 b2 : Byte) (i : Nat) :
    BitVec.getLsbD (b0 ++ b1 ++ b2 : CommandWord) i =
      if i < 8 then b2.getLsbD i else if i - 8 < 8 then b1.getLsbD (i - 8) else b0.getLsbD (i - 8 - 8) := by
  rw [show BitVec.getLsbD (b0 ++ b1 ++ b2 : CommandWord) i =
      if i < 8 then b2.getLsbD i else (b0 ++ b1).getLsbD (i - 8) from BitVec.getLsbD_append]
  rw [BitVec.getLsbD_append]

/-- The bytes taken from a command word are the bytes it was put together from (R73). -/
theorem commandByte_append (b0 b1 b2 : Byte) :
    commandByte (b0 ++ b1 ++ b2) 0 = b0 ∧ commandByte (b0 ++ b1 ++ b2) 1 = b1 ∧ commandByte (b0 ++ b1 ++ b2) 2 = b2 := by
  refine ⟨?_, ?_, ?_⟩ <;>
  · refine BitVec.eq_of_getLsbD_eq fun i hi => ?_
    unfold commandByte
    rw [BitVec.getLsbD_extractLsb', commandWord_getLsbD]
    interval_cases i <;> simp

/-- A command word is put together again from its bytes. -/
theorem commandByte_join (w : CommandWord) : commandByte w 0 ++ commandByte w 1 ++ commandByte w 2 = w := by
  refine BitVec.eq_of_getLsbD_eq fun i hi => ?_
  rw [commandWord_getLsbD]
  unfold commandByte
  rw [BitVec.getLsbD_extractLsb', BitVec.getLsbD_extractLsb', BitVec.getLsbD_extractLsb']
  interval_cases i <;> simp

theorem decode_event {w : Nat} (h : w < 2 ^ 10) : decode ⟨16, w⟩ = .ok (decodeEvent (BitVec.ofNat 10 w)).toInstr := by
  simp only [decode, h, true_or, if_true]

theorem decode_command1 {w : Nat} (h : w < 2 ^ 8) :
    decode ⟨8, w⟩ = .ok (decodeCommand1 (BitVec.ofNat 8 w)).toInstr := by
  simp only [decode, h, show ¬((8 : Nat) = 16 ∨ 8 = 10) by decide, if_true, if_false]

theorem decode_command3 {w : Nat} (h : w < 2 ^ 24) :
    decode ⟨24, w⟩ = .ok (decodeCommand3 (BitVec.ofNat 24 w)).toInstr := by
  simp only [decode, h, show ¬((24 : Nat) = 16 ∨ 24 = 10) by decide, show ¬(24 : Nat) = 8 by decide, if_true, if_false]

end Sys2Proof
end

