-- ==== Sys2Proof/Laws/Events.lean ====
section
/-! SUPPORT. What each event can do, said once: later proofs cite these instead of unfolding an event. -/

namespace Sys2Proof.Machine

theorem addressMatches_iff (address : Nat) : addressMatches address = true ↔ address = 0x38 := by
  simp [addressMatches, Config.busAddr]

/-- CONNECT writes the acknowledge, and the frame cursor on a match in MEASURING (R100). -/
theorem onConnect_cases (address : Nat) (s : State) :
    (addressMatches address = true ∧ s.measuring = true ∧
        onConnect address s = { s with output := .ack true, readIndex := 0 }) ∨
    (addressMatches address = true ∧ s.measuring = false ∧ onConnect address s = { s with output := .ack true }) ∨
    (addressMatches address = false ∧ onConnect address s = { s with output := .ack false }) := by
  cases ha : addressMatches address <;> cases hm : s.measuring <;> simp [onConnect, ha, hm, setOutput, setReadIndex]

/-- READ_BYTE takes exactly one of its three cases (R101). -/
theorem onReadByte_cases (s : State) :
    (s.measuring = false ∧ onReadByte s = { s with output := .rdata s.status }) ∨
    (∃ i : Fin 7, s.measuring = true ∧ s.readIndex = i.castSucc ∧
        onReadByte s = { s with output := .rdata s.readBuffer[i], readIndex := i.succ }) ∨
    (s.measuring = true ∧ s.readIndex = 7 ∧
        onReadByte s = { s with
          output := .rdata (fillerByte s)
          fillerCount := s.fillerCount + 1
          status := s.status &&& ~~~Config.statusBusy
          readIndex := 0
          measuring := false }) := by
  cases hm : s.measuring with
  | false => exact .inl ⟨rfl, by simp [onReadByte, hm, setOutput]⟩
  | true =>
    rcases frameIndex_cases s with ⟨i, hi, hr⟩ | ⟨hn, hr⟩
    · exact .inr (.inl ⟨i, rfl, hr, by simp [onReadByte, hm, hi, setOutput, advanceFrame, setReadIndex, memRead]⟩)
    · exact .inr (.inr ⟨rfl, hr, by
        simp [onReadByte, hm, hn, endFrame, setOutput, setFillerCount, clearBusy, setStatus, setReadIndex, setMeasuring]⟩)

/-- WRITE_BYTE stores, runs the decoded command and acknowledges, or is turned away at the maximum (R102, R103). -/
theorem onWriteByte_cases (data : Byte) (s : State) :
    (∃ i : Fin 3, commandIndex s = some i ∧ s.writeIndex = i.castSucc ∧
        onWriteByte data s =
          setOutput (.ack true) (runCommand (decodedCommand i data s) (storeByte i data s))) ∨
    (commandIndex s = none ∧ s.writeIndex = 3 ∧
        onWriteByte data s = { s with output := .ack false, writeIndex := 0 }) := by
  rcases commandIndex_cases s with ⟨i, hi, hw⟩ | ⟨hn, hw⟩
  · exact .inl ⟨i, hi, hw, by simp [onWriteByte, hi]⟩
  · exact .inr ⟨hn, hw, by simp [onWriteByte, hn, rejectOverrun, setOutput, setWriteIndex]⟩

/-- The command the decoder finds, as a function of the cursor's value, the byte and the buffer (R120). -/
theorem decodedCommand_eq (i : Fin 3) (data : Byte) (s : State) :
    decodedCommand i data s = decodeCommand (i.val + 1) data (s.writeBuffer.set i data) := rfl

/-- The meaning of an event is the event applied to the state. -/
theorem exec_event (e : Event) (s : State) : exec e.toInstr s = .next (applyEvent e s) := by
  cases e <;> rfl

/-- The meaning of a command is the decoder's action on the state. -/
theorem exec_command (c : Command) (s : State) : exec c.toInstr s = .next (runCommand c s) := by
  cases c <;> rfl

/-- What a step can do: take no event, run the event of the sample, or refuse overlapping delivery. -/
theorem step_cases (s : State) :
    (s.inbox = [] ∧ step s = .next (setOutput .nothing s)) ∨
    (∃ p rest, s.inbox = p :: rest ∧ samplePorts p = .idle ∧ step s = .next (setOutput .nothing (setInbox rest s))) ∨
    (∃ p rest w, s.inbox = p :: rest ∧ samplePorts p = .event w ∧
        step s = .next (applyEvent (decodeEvent w) (setInbox rest s))) ∨
    (∃ p rest, s.inbox = p :: rest ∧ samplePorts p = .overlap ∧ step s = .refused .overlappingEvents) := by
  cases hb : s.inbox with
  | nil => exact .inl ⟨rfl, by simp [step, hb, idleStep]⟩
  | cons p rest =>
    cases hp : samplePorts p with
    | idle => exact .inr (.inl ⟨p, rest, rfl, hp, by simp [step, hb, hp, idleStep]⟩)
    | event w => exact .inr (.inr (.inl ⟨p, rest, w, rfl, hp, by simp [step, hb, hp, exec_event]⟩))
    | overlap => exact .inr (.inr (.inr ⟨p, rest, rfl, hp, by simp [step, hb, hp]⟩))

end Sys2Proof.Machine
end

