-- ==== Sys2Proof/Laws/Measurement.lean ====
section
/-! SUPPORT. The bits of the frame's bytes and of the values reassembled from them, said once: proofs about the layout
compare bits and cite these. -/

namespace Sys2Proof.Machine

theorem humidityHigh_getLsbD (h : Raw) (i : Nat) :
    (humidityHigh h).getLsbD i = (decide (i < 8) && h.getLsbD (12 + i)) := BitVec.getLsbD_extractLsb' _ _ _ _

theorem humidityMid_getLsbD (h : Raw) (i : Nat) :
    (humidityMid h).getLsbD i = (decide (i < 8) && h.getLsbD (4 + i)) := BitVec.getLsbD_extractLsb' _ _ _ _

theorem sharedNibbles_getLsbD (h t : Raw) (i : Nat) :
    (sharedNibbles h t).getLsbD i =
      if i < 4 then decide (i < 4) && t.getLsbD (16 + i) else decide (i - 4 < 4) && h.getLsbD (0 + (i - 4)) := by
  unfold sharedNibbles
  rw [show ∀ x y : BitVec 4, BitVec.getLsbD (x ++ y : Byte) i = if i < 4 then y.getLsbD i else x.getLsbD (i - 4) from
    fun x y => BitVec.getLsbD_append]
  rw [BitVec.getLsbD_extractLsb', BitVec.getLsbD_extractLsb']

theorem temperatureMid_getLsbD (t : Raw) (i : Nat) :
    (temperatureMid t).getLsbD i = (decide (i < 8) && t.getLsbD (8 + i)) := BitVec.getLsbD_extractLsb' _ _ _ _

theorem temperatureLow_getLsbD (t : Raw) (i : Nat) :
    (temperatureLow t).getLsbD i = (decide (i < 8) && t.getLsbD (0 + i)) := BitVec.getLsbD_extractLsb' _ _ _ _

theorem unpackHumidity_getLsbD (f : Vector Byte 7) (i : Nat) :
    (unpackHumidity f).getLsbD i =
      if i < 4 then decide (i < 4) && f[3].getLsbD (4 + i)
      else if i - 4 < 8 then f[2].getLsbD (i - 4) else f[1].getLsbD (i - 4 - 8) := by
  unfold unpackHumidity
  rw [show ∀ (x y : Byte) (z : BitVec 4), BitVec.getLsbD (x ++ y ++ z : Raw) i =
      if i < 4 then z.getLsbD i else (x ++ y).getLsbD (i - 4) from fun x y z => BitVec.getLsbD_append]
  rw [BitVec.getLsbD_append, BitVec.getLsbD_extractLsb']

theorem unpackTemperature_getLsbD (f : Vector Byte 7) (i : Nat) :
    (unpackTemperature f).getLsbD i =
      if i < 8 then f[5].getLsbD i
      else if i - 8 < 8 then f[4].getLsbD (i - 8)
      else decide (i - 8 - 8 < 4) && f[3].getLsbD (0 + (i - 8 - 8)) := by
  unfold unpackTemperature
  rw [show ∀ (x : BitVec 4) (y z : Byte), BitVec.getLsbD (x ++ y ++ z : Raw) i =
      if i < 8 then z.getLsbD i else (x ++ y).getLsbD (i - 8) from fun x y z => BitVec.getLsbD_append]
  rw [BitVec.getLsbD_append, BitVec.getLsbD_extractLsb']

/-- The bytes of a packed frame, one by one. -/
theorem frameOf_bytes (d0 : Byte) (h t : Raw) :
    (frameOf d0 h t)[0] = d0 ∧ (frameOf d0 h t)[1] = humidityHigh h ∧ (frameOf d0 h t)[2] = humidityMid h ∧
      (frameOf d0 h t)[3] = sharedNibbles h t ∧ (frameOf d0 h t)[4] = temperatureMid t ∧
      (frameOf d0 h t)[5] = temperatureLow t ∧ (frameOf d0 h t)[6] = crc8 (checkedBytes (frameOf d0 h t)) :=
  ⟨rfl, rfl, rfl, rfl, rfl, rfl, rfl⟩

end Sys2Proof.Machine
end

