-- ==== Sys2Proof/Laws/PerInstr.lean ====
section
/-! SUPPORT. Statements made per instruction: the family `FitsItsFormat` says that the encoder's word has one of the
table's lengths and no bit above it (R85). -/

namespace Sys2Proof.Laws.FitsItsFormat

/-- The encoder's word has a length of the table and fits it. -/
def Statement (i : Instr) : Prop :=
  (encode i).nbits ∈ [0, 8, 16, 24] ∧ (encode i).word < 2 ^ (encode i).nbits

theorem event_fits (e : Event) : (encodeEvent e).toNat < 2 ^ 16 :=
  lt_trans (encodeEvent e).isLt (by decide)

theorem command_fits (b0 b1 b2 : Byte) : (commandWord3 b0 b1 b2).word < 2 ^ 24 := BitVec.isLt _

theorem connect (address : Nat) (writeIntent : Bool) : Statement (.connect address writeIntent) :=
  ⟨by simp [encode], event_fits (.connect address writeIntent)⟩

theorem readByte : Statement .readByte := ⟨by simp [encode], event_fits .readByte⟩

theorem writeByte (data : Byte) : Statement (.writeByte data) := ⟨by simp [encode], event_fits (.writeByte data)⟩

theorem disconnect : Statement .disconnect := ⟨by simp [encode], event_fits .disconnect⟩

theorem softReset : Statement .softReset := ⟨by simp [encode], BitVec.isLt Config.cmdSoftReset⟩

theorem init (x y : Byte) : Statement (.init x y) :=
  ⟨by simp [encode, commandWord3], command_fits Config.cmdInit x y⟩

theorem trigger : Statement .trigger :=
  ⟨by simp [encode, commandWord3], command_fits Config.cmdTrigger0 Config.cmdTrigger1 Config.cmdTrigger2⟩

theorem unrecognized (b0 b1 b2 : Byte) : Statement (.unrecognized b0 b1 b2) :=
  ⟨by simp [encode, commandWord3], command_fits b0 b1 b2⟩

theorem wait : Statement .wait := ⟨by simp [encode], by simp [encode]⟩

end Sys2Proof.Laws.FitsItsFormat
end

