-- ==== Sys2Proof/Tests/Slice0.lean ====
section
/-! SUPPORT. Small tests: words and results copied from spec/95_test_vectors.md (V-...), and one witness for every
statement that has hypotheses. -/

namespace Sys2Proof.Tests

open Sys2Proof Sys2Proof.Machine

/-! ## States to test on -/

/-- HUM = 65.0. -/
def hum65 : Humidity := ⟨65, by decide +kernel⟩

/-- TEMP = 20.0. -/
def temp20 : Temperature := ⟨20, by decide +kernel⟩

/-- The state right after construction with HUM = 65.0, TEMP = 20.0. -/
def idle : State := State.constructed hum65 temp20

/-- The frame of V-M1. -/
def frame65 : Vector Byte 7 := #v[0x18#8, 0xA6#8, 0x66#8, 0x65#8, 0x99#8, 0x9A#8, 0xE7#8]

/-- MEASURING with the frame of V-M1, the frame cursor given. -/
def measuringAt (i : Fin 8) : State := { idle with measuring := true, readBuffer := frame65, readIndex := i }

/-- A command in flight: the bytes and the cursor given. -/
def writtenTo (i : Fin 4) (b0 b1 b2 : Byte) (s : State) : State :=
  { s with writeBuffer := #v[b0, b1, b2], writeIndex := i }

/-- The next state, if there is one. -/
def nextOf (o : Host.Outcome State Fault Refusal) : Option State :=
  match o with
  | .next t => some t
  | .fault _ => none
  | .refused _ => none

/-- The construction that the witnesses below start from. -/
theorem test_construct_idle : construct 65 20 = .next idle := by
  have h : (Config.humMin ≤ (65 : Rat) ∧ (65 : Rat) < Config.humMax) := by decide +kernel
  have t : (Config.tempMin ≤ (20 : Rat) ∧ (20 : Rat) < Config.tempMax) := by decide +kernel
  simp [construct, h, t, idle, hum65, temp20]

theorem test_idle_is_reachable : Reachable idle := ⟨65, 20, idle, [], test_construct_idle, rfl⟩

/-! ## Well-formedness: one ill-formed term for each check -/

theorem test_wf_refuses_wide_address : (Instr.connect 128 true).wellFormed = false := by decide
theorem test_wf_accepts_last_address : (Instr.connect 127 true).wellFormed = true := by decide
theorem test_wf_refuses_init_as_unrecognized :
    (Instr.unrecognized 0xBE#8 0x01#8 0x02#8).wellFormed = false := by decide
theorem test_wf_refuses_trigger_as_unrecognized :
    (Instr.unrecognized 0x00#8 0xAC#8 0x33#8).wellFormed = false := by decide
theorem test_wf_accepts_the_other_byte_order :
    (Instr.unrecognized 0xAC#8 0x33#8 0x00#8).wellFormed = true := by decide
theorem test_event_wf_refuses_wide_address : (Event.connect 128 false).wellFormed = false := by decide

/-! ## Decoding: words written out from 30_encoding.md and 95_test_vectors.md section 2.5 -/

theorem test_decode_connect_write : decodeTableWord 16 0b0001110001 = some (.connect 0x38 true) := by decide
theorem test_decode_connect_other : decodeTableWord 16 0b0011111110 = some (.connect 0x7F false) := by decide
theorem test_decode_read : decodeTableWord 16 0b0100000000 = some .readByte := by decide
theorem test_decode_read_ignored_bits : decodeTableWord 16 0b0111111111 = some .readByte := by decide
theorem test_decode_write : decodeTableWord 16 0b1010101100 = some (.writeByte 0xAC#8) := by decide
theorem test_decode_disconnect : decodeTableWord 16 0b1100000000 = some .disconnect := by decide
theorem test_decode_soft_reset : decodeTableWord 8 0b10111010 = some .softReset := by decide
theorem test_decode_init : decodeTableWord 24 0b101111100000000100000010 = some (.init 0x01#8 0x02#8) := by
  decide
theorem test_decode_trigger : decodeTableWord 24 0b000000001010110000110011 = some .trigger := by decide
theorem test_decode_unrecognized :
    decodeTableWord 24 0b101011000011001100000000 = some (.unrecognized 0xAC#8 0x33#8 0x00#8) := by decide
theorem test_decode_wait : decodeTableWord 0 0 = some .wait := by decide
theorem test_decode_refuses_bit_ten : decode ⟨16, 0x400⟩ = .error .wordTooWide := by decide
theorem test_decode_refuses_no_format : decode ⟨12, 0⟩ = .error .noSuchFormat := by decide
theorem test_encode_connect : encode (.connect 0x39 false) = ⟨16, 0x072⟩ := by decide
theorem test_encode_write : encode (.writeByte 0xBE#8) = ⟨16, 0x2BE⟩ := by decide
theorem test_encode_init : encode (.init 0x01#8 0x02#8) = ⟨24, 0xBE0102⟩ := by decide

/-! ## One step of each instruction -/

/-- V-E5: the direction does not matter, the frame cursor restarts. -/
theorem test_connect_restarts_the_frame :
    nextOf (exec (.connect 0x38 true) (measuringAt 5)) = some { measuringAt 0 with output := .ack true } := by decide +kernel

/-- V-E7: not in IDLE. -/
theorem test_connect_in_idle_keeps_the_cursor :
    nextOf (exec (.connect 0x38 false) { idle with readIndex := 3 }) =
      some { idle with readIndex := 3, output := .ack true } := by decide +kernel

/-- V-E11. -/
theorem test_read_last_frame_byte :
    nextOf (exec .readByte (measuringAt 6)) = some { measuringAt 7 with output := .rdata 0xE7#8 } := by decide +kernel

/-- V-E12: the fields the spec fixes, the byte itself being FILLER. -/
theorem test_read_ends_the_frame :
    (applyEvent .readByte (measuringAt 7)).measuring = false ∧ (applyEvent .readByte (measuringAt 7)).readIndex = 0 ∧
      (applyEvent .readByte (measuringAt 7)).status = 0x18#8 := by decide +kernel

/-- V-E15: a third byte that completes nothing known. -/
theorem test_write_third_byte :
    nextOf (exec (.writeByte 0x56#8) (writtenTo 2 0x12#8 0x34#8 0x00#8 idle)) =
      some { writtenTo 0 0x12#8 0x34#8 0x56#8 idle with output := .ack true } := by decide +kernel

/-- V-C6: the third byte of TRIGGER. -/
theorem test_write_triggers :
    nextOf (exec (.writeByte 0x33#8) (writtenTo 2 0x00#8 0xAC#8 0x00#8 idle)) =
      some { writtenTo 0 0x00#8 0xAC#8 0x33#8 (measuringAt 0) with output := .ack true } := by decide +kernel

/-- V-E17. -/
theorem test_disconnect_changes_nothing :
    nextOf (exec .disconnect (writtenTo 1 0x12#8 0x00#8 0x00#8 (measuringAt 2))) =
      some (writtenTo 1 0x12#8 0x00#8 0x00#8 (measuringAt 2)) := by decide +kernel

/-- V-C1: the frame cursor stays. -/
theorem test_soft_reset :
    nextOf (exec .softReset { measuringAt 4 with initialized := true, writeIndex := 1 }) =
      some { measuringAt 4 with measuring := false } := by decide +kernel

/-- V-C5: INIT leaves MEASURING. -/
theorem test_init_keeps_measuring :
    nextOf (exec (.init 0x01#8 0x02#8) { measuringAt 2 with writeIndex := 3 }) =
      some { measuringAt 2 with initialized := true } := by decide +kernel

/-- V-C7: the frame is written, the frame cursor stays. -/
theorem test_trigger_keeps_the_cursor :
    nextOf (exec .trigger { idle with readIndex := 3, writeIndex := 3 }) = some (measuringAt 3) := by decide +kernel

/-- V-C8. -/
theorem test_unrecognized :
    nextOf (exec (.unrecognized 0xAC#8 0x33#8 0x00#8) (writtenTo 3 0xAC#8 0x33#8 0x00#8 idle)) =
      some (writtenTo 0 0xAC#8 0x33#8 0x00#8 idle) := by decide +kernel

/-- R125. -/
theorem test_wait :
    nextOf (exec .wait (writtenTo 1 0x12#8 0x00#8 0x00#8 idle)) = some (writtenTo 1 0x12#8 0x00#8 0x00#8 idle) := by
  decide +kernel

/-! ## A table word as the first step after reset -/

/-- The output and four fields after the first step from reset with a table word placed. -/
def firstStep (nbits w : Nat) : Option (Output × Bool × Bool × Nat × Nat) :=
  (nextOf (step (State.reset.withFetchWord nbits w))).map fun t =>
    (t.output, t.initialized, t.measuring, t.readIndex.val, t.writeIndex.val)

/-- V-E2, V-E4, V-E8, V-E13, V-E18. -/
theorem test_first_step_events :
    firstStep 16 0x070 = some (.ack true, false, false, 0, 0) ∧ firstStep 16 0x072 = some (.ack false, false, false, 0, 0) ∧
      firstStep 16 0x100 = some (.rdata 0x18#8, false, false, 0, 0) ∧
      firstStep 16 0x212 = some (.ack true, false, false, 0, 1) ∧
      firstStep 16 0x300 = some (.nothing, false, false, 0, 0) :=
  ⟨rfl, rfl, rfl, rfl, rfl⟩

/-- V-C2, V-C4, V-C6, V-C8, and WAIT. -/
theorem test_first_step_commands :
    firstStep 8 0xBA = some (.ack true, false, false, 0, 0) ∧
      firstStep 24 0xBE0000 = some (.ack true, true, false, 0, 0) ∧
      firstStep 24 0x00AC33 = some (.ack true, false, true, 0, 0) ∧
      firstStep 24 0xAC3300 = some (.ack true, false, false, 0, 0) ∧
      firstStep 0 0 = some (.ack true, false, false, 0, 1) :=
  ⟨rfl, rfl, rfl, rfl, rfl⟩

/-! ## The measurement and the checksum -/

/-- V-M2, the low ends of the ranges. -/
theorem test_frame_of_the_low_ends :
    frame (rawHumidity ⟨60, by decide +kernel⟩) (rawTemperature ⟨18, by decide +kernel⟩) =
      #v[0x18#8, 0x99#8, 0x99#8, 0xA5#8, 0x70#8, 0xA4#8, 0x99#8] := by decide +kernel

/-- V-M8 and V-M9: ties go up. -/
theorem test_ties_go_up :
    rawHumidity ⟨60 + 45 / 524288, by decide +kernel⟩ = 0x9999B#20 ∧
      rawTemperature ⟨20 + 45 / 262144, by decide +kernel⟩ = 0x5999B#20 := by decide +kernel

/-- V-M12: packing alone. -/
theorem test_packing :
    frame 0xABCDE#20 0x12345#20 = #v[0x18#8, 0xAB#8, 0xCD#8, 0xE1#8, 0x23#8, 0x45#8, 0xBD#8] := by decide +kernel

/-- V-K4, V-K8, V-K9. -/
theorem test_crc :
    crc8 [0x18#8] = 0x56#8 ∧ crc8 [0xBE#8, 0xEF#8] = 0x92#8 ∧
      crc8 [0x31#8, 0x32#8, 0x33#8, 0x34#8, 0x35#8, 0x36#8, 0x37#8, 0x38#8, 0x39#8] = 0xF7#8 := by decide +kernel

/-! ## Witnesses: for each statement with hypotheses, values that meet them -/

/-- AddressMismatchTouchesNothing: the neighbours of 0x38, and a value above seven bits. -/
theorem test_witness_mismatch : (0x37 : Nat) ≠ 0x38 ∧ (0x39 : Nat) ≠ 0x38 ∧ (0xB8 : Nat) ≠ 0x38 := by decide

/-- AddressMismatchTouchesNothing: a well-formed trace that goes on after the refusal without an acknowledged CONNECT. -/
theorem test_witness_after_mismatch :
    (let es : List Event := [.disconnect, .connect 0x39 false, .connect 0 true]
    wellFormedTrace (Link.start.after (.connect 0x39 true) (onConnect 0x39 idle)) es (onConnect 0x39 idle) = true ∧
      ∀ writeIntent, Event.connect 0x38 writeIntent ∉ es) := by decide +kernel

/-- ReadByteResult: each case, case B at both ends. -/
theorem test_witness_read_cases :
    idle.measuring = false ∧
      ((measuringAt 0).measuring = true ∧ (measuringAt 0).readIndex.val = (0 : Fin 7).val) ∧
      ((measuringAt 6).measuring = true ∧ (measuringAt 6).readIndex.val = (6 : Fin 7).val) ∧
      ((measuringAt 7).measuring = true ∧ (measuringAt 7).readIndex.val = 7) := by decide

/-- WriteByteResult, CommandEffectInTheLastByte, OverrunIsRejected: every cursor. -/
theorem test_witness_write_cases :
    (writtenTo 0 0#8 0#8 0#8 idle).writeIndex.val = (0 : Fin 3).val ∧
      (writtenTo 1 0xBE#8 0#8 0#8 idle).writeIndex.val = (1 : Fin 3).val ∧
      (writtenTo 2 0x00#8 0xAC#8 0#8 idle).writeIndex.val = (2 : Fin 3).val ∧
      (writtenTo 3 0#8 0#8 0#8 idle).writeIndex.val = 3 := by decide

/-- UnrecognizedIsDiscarded: one byte away from TRIGGER. -/
theorem test_witness_unrecognized :
    (writtenTo 2 0x00#8 0xAC#8 0#8 idle).writeIndex.val = 2 ∧
      (writtenTo 2 0x00#8 0xAC#8 0#8 idle).writeBuffer[0] ≠ 0xBE#8 ∧
      ¬((writtenTo 2 0x00#8 0xAC#8 0#8 idle).writeBuffer[0] = 0x00#8 ∧
        (writtenTo 2 0x00#8 0xAC#8 0#8 idle).writeBuffer[1] = 0xAC#8 ∧ (0x32#8 : Byte) = 0x33#8) := by decide

/-- WaitResult: both ends of the cursor's range. -/
theorem test_witness_wait_cursor : ((1 : Nat) ≤ 1 ∧ (1 : Nat) ≤ 3) ∧ ((1 : Nat) ≤ 3 ∧ (3 : Nat) ≤ 3) := by decide

/-- CrcSeesOneByteError: the checksums agree on equal sequences. -/
theorem test_witness_crc_equal :
    crc8 ([0x18#8] ++ 0xA6#8 :: [0x66#8]) = crc8 ([0x18#8] ++ 0xA6#8 :: [0x66#8]) := rfl

/-- ConstructionResult: the low ends are inside, each high end is outside. -/
theorem test_witness_construction :
    ((60 ≤ (60 : Rat) ∧ (60 : Rat) < 76) ∧ (18 ≤ (18 : Rat) ∧ (18 : Rat) < 26)) ∧
      ¬((60 ≤ (76 : Rat) ∧ (76 : Rat) < 76) ∧ (18 ≤ (18 : Rat) ∧ (18 : Rat) < 26)) ∧
      ¬((60 ≤ (60 : Rat) ∧ (60 : Rat) < 76) ∧ (18 ≤ (26 : Rat) ∧ (26 : Rat) < 26)) := by decide +kernel

/-- The frame of V-M1 is the frame of the sensed values. -/
theorem test_frame65 : frame65 = frame (rawHumidity hum65) (rawTemperature temp20) := by decide +kernel

/-- A state with a frame available and the invariant, the frame cursor given. -/
theorem test_measuring_inv (i : Fin 8) : (measuringAt i).Inv where
  statusAtRest := rfl
  cursorBelowThree := by show 0 < 3; decide
  noResetInFlight := fun h => absurd (show 1 ≤ 0 from h) (by decide)
  frameReady := fun _ => test_frame65

/-- StepKeepsInv: the eighth read of a frame waits in the inbox. -/
theorem test_witness_step_keeps_inv :
    ∃ s t : State, s.Inv ∧ s.measuring = true ∧ step s = .next t ∧ t.measuring = false :=
  ⟨{ measuringAt 7 with inbox := [portsOfEvent .readByte] }, _,
    ⟨rfl, by show 0 < 3; decide, fun h => absurd (show 1 ≤ 0 from h) (by decide), fun _ => test_frame65⟩,
    rfl, rfl, rfl⟩

/-- ReachableStatesMeetInv, BusyIsNeverSeen, EveryWriteIsAcknowledged: a reachable state with a partial command. -/
theorem test_witness_reachable : ∃ s : State, Reachable s ∧ s.writeIndex.val = 2 :=
  ⟨_, ⟨65, 20, idle, [.writeByte 0x00#8, .writeByte 0xAC#8], test_construct_idle, rfl⟩, by decide +kernel⟩

/-- StatusReadsDefault: IDLE, and MEASURING with the cursor at 0. -/
theorem test_witness_status_read :
    (Reachable idle ∧ idle.measuring = false) ∧
      ∃ s, Reachable s ∧ s.measuring = true ∧ s.readIndex = 0 :=
  ⟨⟨test_idle_is_reachable, rfl⟩,
    ⟨_, ⟨65, 20, idle, [.writeByte 0x00#8, .writeByte 0xAC#8, .writeByte 0x33#8], test_construct_idle, rfl⟩,
      by decide +kernel, by decide +kernel⟩⟩

/-- SensedValuesNeverChange: two traces that end in MEASURING. -/
theorem test_witness_sensed_values :
    construct 65 20 = .next idle ∧ (runState opTrigger idle).measuring = true ∧
      (runState (opTrigger ++ opRead 2) idle).measuring = true :=
  ⟨test_construct_idle, by decide +kernel, by decide +kernel⟩

/-- OnlyTheseChangeMeasuring, out of MEASURING and into it. -/
theorem test_witness_changes_measuring :
    (∃ t, exec Event.readByte.toInstr (measuringAt 7) = .next t ∧ (measuringAt 7).measuring = true ∧
      t.measuring = false) ∧
    (∃ t, exec (Event.writeByte 0x33#8).toInstr (writtenTo 2 0x00#8 0xAC#8 0#8 idle) = .next t ∧
      (writtenTo 2 0x00#8 0xAC#8 0#8 idle).measuring = false ∧ t.measuring = true) :=
  ⟨⟨_, rfl, rfl, rfl⟩, ⟨_, rfl, rfl, rfl⟩⟩

/-- OnlyTheseWriteReadIndex: an event that does, and a command. -/
theorem test_witness_writes_read_index :
    (∃ t, exec (Event.connect 0x38 false).toInstr (measuringAt 7) = .next t ∧
      t.readIndex ≠ (measuringAt 7).readIndex) ∧
    ∃ t, exec Command.trigger.toInstr (measuringAt 7) = .next t :=
  ⟨⟨_, rfl, by decide⟩, ⟨_, rfl⟩⟩

/-- OnlyWriteByteMovesTheCommand: an event that is no WRITE_BYTE, and one that is. -/
theorem test_witness_moves_the_command :
    (∃ t, exec Event.readByte.toInstr idle = .next t ∧ ∀ data, Event.readByte ≠ .writeByte data) ∧
    ∃ t, exec (Event.writeByte 0x00#8).toInstr idle = .next t ∧ t.writeIndex.val = 1 :=
  ⟨⟨_, rfl, by intro data h; cases h⟩, ⟨_, rfl, rfl⟩⟩

/-- OnlyTheseWriteTheRest: the frame, `initialized` and the status each written. -/
theorem test_witness_writes_the_rest :
    (∃ t, exec (Event.writeByte 0x33#8).toInstr (writtenTo 2 0x00#8 0xAC#8 0#8 idle) = .next t ∧
      t.readBuffer ≠ idle.readBuffer) ∧
    (∃ t, exec (Event.writeByte 0x02#8).toInstr (writtenTo 2 0xBE#8 0x01#8 0#8 idle) = .next t ∧
      t.initialized ≠ idle.initialized) ∧
    ∃ t, exec Event.readByte.toInstr { measuringAt 7 with status := 0x98#8 } = .next t ∧ t.status ≠ 0x98#8 :=
  ⟨⟨_, rfl, by decide +kernel⟩, ⟨_, rfl, by decide +kernel⟩, ⟨_, rfl, by decide +kernel⟩⟩

/-- StepRunsTheDecodedEvent: a sample with one strobe, a sample with none, no sample. -/
theorem test_witness_step_cases :
    (∃ w, ({ idle with inbox := [portsOfEvent (.writeByte 0xBA#8)] } : State).inbox =
        portsOfEvent (.writeByte 0xBA#8) :: [] ∧ samplePorts (portsOfEvent (.writeByte 0xBA#8)) = .event w) ∧
      samplePorts ⟨false, false, false, false, 0x38#7, true, 0xBA#8⟩ = .idle ∧
      samplePorts ⟨true, true, false, false, 0x38#7, true, 0xBA#8⟩ = .overlap ∧ idle.inbox = [] :=
  ⟨⟨_, rfl, rfl⟩, rfl, rfl, rfl⟩

/-- PortsCarryTheEvent, StepsOfTheInboxAreTheTrace: well-formed events, the inbox empty. -/
theorem test_witness_inbox_trace :
    (∀ e ∈ ([.connect 127 true, .writeByte 0xFF#8, .readByte, .disconnect] : List Event), e.wellFormed = true) ∧
      idle.inbox = [] := by decide

/-- TableWordRunsNext: a word of each format. -/
theorem test_witness_table_words :
    decodeTableWord 10 0x3FF = some .disconnect ∧ decodeTableWord 16 0x0FF = some (.connect 0x7F true) ∧
      decodeTableWord 8 0x00 = some .wait ∧ decodeTableWord 24 0xBA0000 = some (.unrecognized 0xBA#8 0#8 0#8) ∧
      decodeTableWord 0 0 = some .wait := by decide

/-- DecodeOfEncode: a well-formed instruction of each format. -/
theorem test_witness_well_formed :
    (Instr.connect 127 false).wellFormed = true ∧ Instr.softReset.wellFormed = true ∧
      (Instr.init 0xFF#8 0xBA#8).wellFormed = true ∧ (Instr.unrecognized 0x00#8 0xAC#8 0x32#8).wellFormed = true ∧
      Instr.wait.wellFormed = true := by decide

/-- ThreeByteWordsAreOneToOne: both ends. -/
theorem test_witness_three_bytes : 0 < 2 ^ 24 ∧ 0xFFFFFF < 2 ^ 24 := by decide

/-- DirectionConsistentCursorIsZero: a frame half read, then a second TRIGGER whose last byte is still to come. -/
theorem test_witness_direction_consistent :
    construct 65 20 = .next idle ∧
      (let es : List Event := [.connect 0x38 true, .writeByte 0x00#8, .writeByte 0xAC#8, .writeByte 0x33#8,
        .connect 0x38 false, .readByte, .disconnect, .connect 0x38 true, .writeByte 0x00#8, .writeByte 0xAC#8]
      directionConsistent Link.start es idle = true ∧
      directionConsistent Link.start (es ++ [.writeByte 0x33#8]) idle = true ∧
      completes (.writeByte 0x33#8) (runState es idle) .trigger) :=
  ⟨test_construct_idle, by decide +kernel, by decide +kernel, ⟨_, 2, rfl, by decide +kernel, by decide +kernel⟩⟩

/-- DirectionConsistentCursorIsZero: a direction-consistent trace that goes back to IDLE. -/
theorem test_witness_direction_consistent_idle :
    directionConsistent Link.start (opTrigger ++ opRead 2 ++ opSoftReset) idle = true ∧
      (runState (opTrigger ++ opRead 2 ++ opSoftReset) idle).measuring = false := by decide +kernel

/-- SevenReadsDoNotEndMeasuring, StaleFrameCursor: the frame cursor at both ends. -/
theorem test_witness_frame_cursor :
    ((measuringAt 0).Inv ∧ (measuringAt 0).writeIndex.val = 0 ∧ (measuringAt 0).measuring = true ∧
        (measuringAt 0).readIndex.val = (0 : Fin 7).val) ∧
      ((measuringAt 6).Inv ∧ (measuringAt 6).writeIndex.val = 0 ∧ (measuringAt 6).measuring = true ∧
        (measuringAt 6).readIndex.val = (6 : Fin 7).val) :=
  ⟨⟨test_measuring_inv 0, rfl, rfl, rfl⟩, ⟨test_measuring_inv 6, rfl, rfl, rfl⟩⟩

/-- DanglingByteLosesTheTrigger. -/
theorem test_witness_dangling_byte : (measuringAt 3).writeIndex.val = 0 := rfl

/-- HiddenStateIsInvisible, EventKeepsAgreement: two different states that agree on what is live. -/
theorem test_witness_hidden_state :
    AgreeOnLive (writtenTo 1 0x00#8 0x11#8 0x22#8 idle)
      (writtenTo 1 0x00#8 0xFF#8 0xEE#8 { idle with initialized := true, readBuffer := frame65 }) where
  hum := rfl
  temp := rfl
  measuring := rfl
  status := rfl
  readIndex := rfl
  writeIndex := rfl
  readBuffer := fun h => absurd (show false = true from h) (by decide)
  writeBuffer := by decide +kernel

/-- SpuriousReadLabelAndEffect: a read after a refused CONNECT is spurious, one after an acknowledged CONNECT is not. -/
theorem test_witness_spurious_read :
    (runLabels Link.start ([.connect 0x38 false, .connect 0x39 false] ++ [.readByte]) idle).getLast? =
        some (some .spuriousRead) ∧
      (runLabels Link.start ([.connect 0x39 false, .connect 0x38 false, .readByte] ++ [.readByte]) idle).getLast? =
        some none := by decide +kernel

/-- SpuriousReadLabelAndEffect: traces that end in each of R101's cases, case B at both ends. -/
theorem test_witness_spurious_read_cases :
    (runState [.disconnect] idle).measuring = false ∧
      (∀ i : Fin 8, (runState [.disconnect] (measuringAt i)).measuring = true ∧
        (runState [.disconnect] (measuringAt i)).readIndex.val = i.val) := by decide +kernel

/-- SpuriousReadLabelAndEffect: a well-formed trace that reads. -/
theorem test_witness_well_formed_trace :
    wellFormedTrace Link.start (.connect 0x39 false :: .disconnect :: opRead 2) idle = true := by decide +kernel

/-- EventKeepsCursorRule: a read in a read transaction, and a write in a write transaction. -/
theorem test_witness_cursor_rule :
    (CursorRule ⟨true, some false⟩ (measuringAt 3) ∧ Link.allows ⟨true, some false⟩ .readByte = true ∧
        Link.inDirection ⟨true, some false⟩ .readByte = true) ∧
      (CursorRule ⟨true, some true⟩ (measuringAt 0) ∧ Link.allows ⟨true, some true⟩ (.writeByte 0xBA#8) = true ∧
        Link.inDirection ⟨true, some true⟩ (.writeByte 0xBA#8) = true) :=
  ⟨⟨⟨fun h => absurd (show true = false from h) (by decide), fun _ => by decide,
      fun _ h => absurd h (by decide)⟩, rfl, rfl⟩,
    ⟨⟨fun _ => rfl, fun _ => by decide, fun _ _ => rfl⟩, rfl, rfl⟩⟩

/-- ConstructionMeetsCursorRule, ControllerReadsTheSensedValues: a trace that leaves a command half written. -/
theorem test_witness_controller :
    construct 65 20 = .next idle ∧ (runState [.writeByte 0x00#8] idle).writeIndex.val = 1 :=
  ⟨test_construct_idle, by decide +kernel⟩

end Sys2Proof.Tests
end

/-! PROOF. Every event is accepted, and its output is an acknowledge of 0 exactly where R78 names a refusal. -/

namespace Sys2Proof.Machine

theorem onConnect_output (address : Nat) (s : State) :
    (onConnect address s).output = .ack (addressMatches address) := rfl

/-- A read answers a byte in each of R101's cases, never an acknowledge. -/
theorem onReadByte_output (s : State) : ∃ byte, (onReadByte s).output = .rdata byte := by
  obtain ⟨-, h⟩ | ⟨i, -, -, h⟩ | ⟨-, -, h⟩ := onReadByte_cases s <;> exact ⟨_, congrArg State.output h⟩

/-- A byte is acknowledged exactly where the cursor has an effective index (R102, R103). -/
theorem onWriteByte_output (data : Byte) (s : State) :
    (onWriteByte data s).output = .ack (commandIndex s).isSome := by
  obtain ⟨i, hi, -, h⟩ | ⟨hn, -, h⟩ := onWriteByte_cases data s
  · rw [h, hi]
    rfl
  · rw [h, hn]
    rfl

theorem raises_connect (address : Nat) (writeIntent : Bool) (s : State) :
    raises (.connect address writeIntent) s = if addressMatches address then none else some .addressMismatch := rfl

/-- A command raises UnrecognizedCommand or nothing, so it refuses no event (R121 to R125). -/
theorem commandRaises_cases (c : Command) :
    commandRaises c = none ∨ commandRaises c = some .unrecognizedCommand := by
  cases c with
  | softReset | init | trigger | wait => exact .inl rfl
  | unrecognized => exact .inr rfl

/-- The only refusal of a WRITE_BYTE is the overrun guard (R183, D6). -/
theorem raises_writeByte_refusal_iff (data : Byte) (s : State) :
    (raises (.writeByte data) s = some .addressMismatch ∨ raises (.writeByte data) s = some .bufferOverrun) ↔
      commandIndex s = none := by
  cases hi : commandIndex s with
  | none => simp [raises, hi]
  | some i =>
    have hr : raises (.writeByte data) s = commandRaises (decodedCommand i data s) := by simp only [raises, hi]
    obtain h | h := commandRaises_cases (decodedCommand i data s) <;> simp [hr, h]

/-- The two acknowledges of 0 and the two refusals are the same events in the same states (R78). -/
theorem applyEvent_refuses_iff (e : Event) (s : State) :
    (applyEvent e s).output = .ack false ↔
      raises e s = some .addressMismatch ∨ raises e s = some .bufferOverrun := by
  cases e with
  | connect address writeIntent =>
    rw [show applyEvent (.connect address writeIntent) s = onConnect address s from rfl, onConnect_output,
      raises_connect]
    cases addressMatches address <;> simp
  | readByte =>
    obtain ⟨byte, h⟩ := onReadByte_output s
    rw [show applyEvent .readByte s = onReadByte s from rfl, h]
    simp [raises]
  | writeByte data =>
    rw [show applyEvent (.writeByte data) s = onWriteByte data s from rfl, onWriteByte_output,
      raises_writeByte_refusal_iff]
    simp
  | disconnect => simp [applyEvent, onDisconnect, raises]

/-- Settles O7: `exec` applies the event, which is total; what the output says of a refusal is the label. -/
theorem everyEventIsAccepted : Obligations.EveryEventIsAccepted := by
  unfold Obligations.EveryEventIsAccepted
  exact fun e s => ⟨applyEvent e s, exec_event e s, applyEvent_refuses_iff e s⟩

end Sys2Proof.Machine

/-! PROOF. The layout of the frame that TRIGGER packs (R82, R148). -/

namespace Sys2Proof.Machine

/-- TRIGGER as one update, from any state (R123, R150). -/
theorem triggerMeasurement_eq (s : State) :
    triggerMeasurement s =
      { s with
        status := s.status &&& ~~~Config.statusBusy
        readBuffer := frameOf (s.status &&& ~~~Config.statusBusy) (rawHumidity s.hum) (rawTemperature s.temp)
        measuring := true
        writeIndex := 0 } := by
  unfold triggerMeasurement
  rw [measure_eq]
  rfl

/-- A bit of five bytes read as one string: the byte that holds it, counted from the last. -/
theorem fiveBytes_getLsbD (b1 b2 b3 b4 b5 : Byte) (i : Nat) :
    BitVec.getLsbD (b1 ++ b2 ++ b3 ++ b4 ++ b5 : BitVec 40) i =
      if i < 8 then b5.getLsbD i
      else if i - 8 < 8 then b4.getLsbD (i - 8)
      else if i - 8 - 8 < 8 then b3.getLsbD (i - 8 - 8)
      else if i - 8 - 8 - 8 < 8 then b2.getLsbD (i - 8 - 8 - 8)
      else b1.getLsbD (i - 8 - 8 - 8 - 8) := by
  rw [show BitVec.getLsbD (b1 ++ b2 ++ b3 ++ b4 ++ b5 : BitVec 40) i =
      if i < 8 then b5.getLsbD i else (b1 ++ b2 ++ b3 ++ b4).getLsbD (i - 8) from BitVec.getLsbD_append]
  rw [BitVec.getLsbD_append, BitVec.getLsbD_append, BitVec.getLsbD_append]

/-- The five data bytes read as one string are the two raw values, most significant bit first (R82, R147). -/
theorem dataBytes_append (h t : Raw) :
    (humidityHigh h ++ humidityMid h ++ sharedNibbles h t ++ temperatureMid t ++ temperatureLow t : BitVec 40) =
      (h ++ t : BitVec 40) := by
  refine BitVec.eq_of_getLsbD_eq fun i hi => ?_
  rw [fiveBytes_getLsbD, humidityHigh_getLsbD, humidityMid_getLsbD, sharedNibbles_getLsbD, temperatureMid_getLsbD,
    temperatureLow_getLsbD]
  rw [show BitVec.getLsbD (h ++ t : BitVec 40) i = if i < 20 then t.getLsbD i else h.getLsbD (i - 20) from
    BitVec.getLsbD_append]
  interval_cases i <;> simp

/-- Settles O16: TRIGGER leaves `frameOf` of the status it writes, whose bytes are known one by one. -/
theorem frameLayout : Obligations.FrameLayout := by
  unfold Obligations.FrameLayout
  intro s
  refine ⟨triggerMeasurement s, rfl, ?_⟩
  rw [triggerMeasurement_eq]
  obtain ⟨h0, h1, h2, h3, h4, h5, h6⟩ :=
    frameOf_bytes (s.status &&& ~~~Config.statusBusy) (rawHumidity s.hum) (rawTemperature s.temp)
  refine ⟨h0, ?_, h6⟩
  rw [h1, h2, h3, h4, h5]
  exact dataBytes_append (rawHumidity s.hum) (rawTemperature s.temp)

end Sys2Proof.Machine

/-! PROOF. The whole-state results of CONNECT, READ_BYTE and DISCONNECT (R100, R101, R104). -/

namespace Sys2Proof.Machine

/-- The output wires are no part of the state block (R20). -/
theorem sameBlock_setOutput (v : Output) (s : State) : SameBlock s (setOutput v s) where
  hum := rfl
  temp := rfl
  initialized := rfl
  measuring := rfl
  status := rfl
  readBuffer := rfl
  readIndex := rfl
  writeBuffer := rfl
  writeIndex := rfl

/-- CONNECT as one update, from any state (R100). -/
theorem onConnect_eq (address : Nat) (s : State) :
    onConnect address s = { s with
      output := .ack (decide (address = 0x38))
      readIndex := if address = 0x38 ∧ s.measuring = true then 0 else s.readIndex } := by
  obtain ⟨ha, hm, h⟩ | ⟨ha, hm, h⟩ | ⟨ha, h⟩ := onConnect_cases address s
  · have hmatch : address = 0x38 := (addressMatches_iff address).mp ha
    rw [h]
    simp [hmatch, hm]
  · have hmatch : address = 0x38 := (addressMatches_iff address).mp ha
    rw [h]
    simp [hmatch, hm]
  · have hmismatch : address ≠ 0x38 := fun hmatch => by simp [(addressMatches_iff address).mpr hmatch] at ha
    rw [h]
    simp [hmismatch]

/-- CONNECT is labelled exactly where the address is not the block's (R181). -/
theorem raises_connect_eq (address : Nat) (writeIntent : Bool) (s : State) :
    raises (.connect address writeIntent) s = if address = 0x38 then none else some .addressMismatch := by
  rw [raises_connect]
  exact if_congr (addressMatches_iff address) rfl rfl

/-- READ_BYTE in IDLE (R101 case A). -/
theorem onReadByte_idle {s : State} (hm : s.measuring = false) :
    onReadByte s = { s with output := .rdata s.status } := by
  obtain ⟨-, h⟩ | ⟨i, hm', -⟩ | ⟨hm', -⟩ := onReadByte_cases s
  · exact h
  · simp [hm] at hm'
  · simp [hm] at hm'

/-- READ_BYTE with the frame cursor at a frame byte (R101 case B). -/
theorem onReadByte_frame {s : State} {i : Fin 7} (hm : s.measuring = true) (hi : s.readIndex = i.castSucc) :
    onReadByte s = { s with output := .rdata s.readBuffer[i], readIndex := i.succ } := by
  obtain ⟨hm', -⟩ | ⟨j, -, hj, h⟩ | ⟨-, h7, -⟩ := onReadByte_cases s
  · simp [hm] at hm'
  · obtain rfl : i = j := Fin.castSucc_injective 7 (hi.symm.trans hj)
    exact h
  · exact absurd (hi.symm.trans h7) (Fin.castSucc_ne_last i)

/-- READ_BYTE with the frame exhausted (R101 case C): bit 7 of `status` is the busy bit. -/
theorem onReadByte_end {s : State} (hm : s.measuring = true) (h7 : s.readIndex = 7) :
    onReadByte s = { s with
      output := .rdata (fillerByte s)
      fillerCount := s.fillerCount + 1
      measuring := false
      readIndex := 0
      status := s.status &&& 0x7F#8 } := by
  obtain ⟨hm', -⟩ | ⟨i, -, hi, -⟩ | ⟨-, -, h⟩ := onReadByte_cases s
  · simp [hm] at hm'
  · exact absurd (hi.symm.trans h7) (Fin.castSucc_ne_last i)
  · rw [h, show ~~~Config.statusBusy = 0x7F#8 by decide]

/-- Settles O1: `exec` applies the event, whose update and label are said by the two equations of CONNECT. -/
theorem connectResult : Obligations.ConnectResult := by
  unfold Obligations.ConnectResult
  intro address writeIntent s
  refine ⟨?_, raises_connect_eq address writeIntent s⟩
  rw [← onConnect_eq]
  exact exec_event (.connect address writeIntent) s

/-- Settles O3: one equation per case of the read multiplexer; the filler byte and its count are the model's own. -/
theorem readByteResult : Obligations.ReadByteResult := by
  unfold Obligations.ReadByteResult
  intro s
  have hexec : exec .readByte s = .next (onReadByte s) := exec_event .readByte s
  rw [hexec]
  refine ⟨fun hm => ?_, fun hm i hi => ?_, fun hm h7 => ⟨fillerByte s, s.fillerCount + 1, ?_⟩, rfl⟩
  · rw [onReadByte_idle hm]
  · rw [onReadByte_frame hm (Fin.ext hi)]
  · rw [onReadByte_end hm (Fin.ext h7)]

/-- Settles O6: DISCONNECT writes the output wires only, so it keeps the block. -/
theorem disconnectChangesNothing : Obligations.DisconnectChangesNothing := by
  unfold Obligations.DisconnectChangesNothing
  exact fun s => ⟨setOutput .nothing s, exec_event .disconnect s, rfl, sameBlock_setOutput .nothing s, rfl⟩

end Sys2Proof.Machine

/-! PROOF. When the decoder finds each command, and the results of SOFT_RESET, INIT, UNRECOGNIZED and WAIT (R120 to R122,
R124, R125). -/

namespace Sys2Proof.Machine

/-- Three bytes in arrival order are one buffer. -/
theorem commandBuffer_eq_iff (buffer : Vector Byte 3) (b0 b1 b2 : Byte) :
    buffer = #v[b0, b1, b2] ↔ buffer[0] = b0 ∧ buffer[1] = b1 ∧ buffer[2] = b2 := by
  constructor
  · rintro rfl
    exact ⟨rfl, rfl, rfl⟩
  · rintro ⟨h0, h1, h2⟩
    refine Vector.ext fun i hi => ?_
    match i, hi with
    | 0, _ => exact h0
    | 1, _ => exact h1
    | 2, _ => exact h2

/-- The five branches of the decoder with the whole condition of each, so that no two of them meet (R120). -/
theorem decodeCommand_cases (cursor : Nat) (data : Byte) (buffer : Vector Byte 3) :
    (cursor = 1 ∧ data = 0xBA#8 ∧ decodeCommand cursor data buffer = .softReset) ∨
    (cursor = 3 ∧ buffer[0] = 0xBE#8 ∧ decodeCommand cursor data buffer = .init buffer[1] buffer[2]) ∨
    (cursor = 3 ∧ buffer = #v[0x00#8, 0xAC#8, 0x33#8] ∧ decodeCommand cursor data buffer = .trigger) ∨
    (cursor = 3 ∧ buffer[0] ≠ 0xBE#8 ∧ buffer ≠ #v[0x00#8, 0xAC#8, 0x33#8] ∧
      decodeCommand cursor data buffer = .unrecognized buffer[0] buffer[1] buffer[2]) ∨
    (¬(cursor = 1 ∧ data = 0xBA#8) ∧ cursor ≠ 3 ∧ decodeCommand cursor data buffer = .wait) := by
  by_cases h3 : cursor = 3
  · subst h3
    rw [decodeCommand_three]
    by_cases hInit : buffer[0] = 0xBE#8
    · exact .inr (.inl ⟨rfl, hInit, if_pos hInit⟩)
    · rw [if_neg hInit]
      by_cases hTrigger : buffer = #v[0x00#8, 0xAC#8, 0x33#8]
      · exact .inr (.inr (.inl ⟨rfl, hTrigger, if_pos ((commandBuffer_eq_iff buffer _ _ _).mp hTrigger)⟩))
      · exact .inr (.inr (.inr (.inl
          ⟨rfl, hInit, hTrigger, if_neg fun h => hTrigger ((commandBuffer_eq_iff buffer _ _ _).mpr h)⟩)))
  · by_cases hReset : cursor = 1 ∧ data = 0xBA#8
    · exact .inl ⟨hReset.1, hReset.2, if_pos hReset⟩
    · refine .inr (.inr (.inr (.inr ⟨hReset, h3, ?_⟩)))
      unfold decodeCommand
      rw [if_neg hReset, if_neg fun h => h3 h.1, if_neg fun h => h3 h.1, if_neg h3]

theorem decodeCommand_eq_softReset_iff (cursor : Nat) (data : Byte) (buffer : Vector Byte 3) :
    decodeCommand cursor data buffer = .softReset ↔ cursor = 1 ∧ data = 0xBA#8 := by
  obtain ⟨h1, hd, h⟩ | ⟨h3, -, h⟩ | ⟨h3, -, h⟩ | ⟨h3, -, -, h⟩ | ⟨hReset, -, h⟩ :=
    decodeCommand_cases cursor data buffer <;> rw [h]
  · simp [h1, hd]
  · simp [h3]
  · simp [h3]
  · simp [h3]
  · simp [hReset]

theorem decodeCommand_eq_init_iff (cursor : Nat) (data x y : Byte) (buffer : Vector Byte 3) :
    decodeCommand cursor data buffer = .init x y ↔
      cursor = 3 ∧ buffer[0] = 0xBE#8 ∧ x = buffer[1] ∧ y = buffer[2] := by
  obtain ⟨h1, -, h⟩ | ⟨h3, h0, h⟩ | ⟨-, hb, h⟩ | ⟨-, h0, -, h⟩ | ⟨-, h3, h⟩ :=
    decodeCommand_cases cursor data buffer <;> rw [h]
  · simp [h1]
  · simp [h3, h0, eq_comm]
  · simp [hb]
  · simp [h0]
  · simp [h3]

theorem decodeCommand_eq_unrecognized_iff (cursor : Nat) (data b0 b1 b2 : Byte) (buffer : Vector Byte 3) :
    decodeCommand cursor data buffer = .unrecognized b0 b1 b2 ↔
      cursor = 3 ∧ buffer = #v[b0, b1, b2] ∧ b0 ≠ 0xBE#8 ∧ buffer ≠ #v[0x00#8, 0xAC#8, 0x33#8] := by
  obtain ⟨h1, -, h⟩ | ⟨-, h0, h⟩ | ⟨-, hb, h⟩ | ⟨h3, h0, hb, h⟩ | ⟨-, h3, h⟩ :=
    decodeCommand_cases cursor data buffer <;> rw [h]
  · simp [h1]
  · refine iff_of_false nofun ?_
    rintro ⟨-, rfl, hne, -⟩
    exact hne h0
  · simp [hb]
  · rw [Command.unrecognized.injEq, ← commandBuffer_eq_iff]
    constructor
    · rintro rfl
      exact ⟨h3, rfl, h0, hb⟩
    · rintro ⟨-, hbytes, -, -⟩
      exact hbytes
  · simp [h3]

/-- WAIT is the last branch: whatever is neither a SOFT_RESET nor a third byte (R125). -/
theorem decodeCommand_eq_wait_iff (cursor : Nat) (data : Byte) (buffer : Vector Byte 3) :
    decodeCommand cursor data buffer = .wait ↔ ¬(cursor = 1 ∧ data = 0xBA#8) ∧ cursor ≠ 3 := by
  obtain ⟨h1, hd, h⟩ | ⟨h3, -, h⟩ | ⟨h3, -, h⟩ | ⟨h3, -, -, h⟩ | ⟨hReset, h3, h⟩ :=
    decodeCommand_cases cursor data buffer <;> rw [h]
  · simp [h1, hd]
  · simp [h3]
  · simp [h3]
  · simp [h3]
  · exact iff_of_true rfl ⟨hReset, h3⟩

/-- The one-byte word 0xBA is the command SOFT_RESET (R85, R121). -/
theorem decodeTableWord_softReset : decodeTableWord 8 0xBA = some .softReset := by
  have hfound : decodeCommand1 0xBA#8 = .softReset := (decodeCommand_eq_softReset_iff 1 0xBA#8 _).mpr ⟨rfl, rfl⟩
  unfold decodeTableWord
  rw [decode_command1 (by decide), hfound]
  rfl

/-- Settles O9: the command's action is one update, and the decoder's first branch has the byte's value as its condition. -/
theorem softResetResult : Obligations.SoftResetResult := by
  unfold Obligations.SoftResetResult
  exact ⟨exec_command .softReset, decodeCommand_eq_softReset_iff, rfl, decodeTableWord_softReset⟩

/-- Settles O10: the command's action is one update whatever the operands are, and the decoder takes the operands from
the buffer. -/
theorem initResult : Obligations.InitResult := by
  unfold Obligations.InitResult
  exact ⟨fun x y => exec_command (.init x y), decodeCommand_eq_init_iff, fun _ _ => rfl⟩

/-- Settles O12: the command's action is the cursor's update, and the decoder finds it where the two three-byte commands
before it are not. -/
theorem unrecognizedResult : Obligations.UnrecognizedResult := by
  unfold Obligations.UnrecognizedResult
  exact ⟨fun b0 b1 b2 => exec_command (.unrecognized b0 b1 b2), decodeCommand_eq_unrecognized_iff, fun _ _ _ => rfl⟩

/-- Settles O14: the command's action is none, and within the cursors 1 to 3 the decoder's last branch is the statement's
condition. -/
theorem waitResult : Obligations.WaitResult := by
  unfold Obligations.WaitResult
  refine ⟨exec_command .wait, fun cursor data buffer hlow hhigh => ?_, rfl⟩
  rw [decodeCommand_eq_wait_iff]
  obtain rfl | rfl | rfl : cursor = 1 ∨ cursor = 2 ∨ cursor = 3 := by omega
  · simp
  · simp
  · simp

end Sys2Proof.Machine

/-! PROOF. The CRC bit step read on numbers (R162). -/

namespace Sys2Proof.Machine

/-- Bit 7 of a byte is the test against 128 that R162 makes before it discards the bit. -/
theorem getLsbD_seven_iff (acc : Byte) : acc.getLsbD 7 = true ↔ 128 ≤ acc.toNat := by
  rw [← BitVec.msb_eq_getLsbD_last]
  exact BitVec.msb_eq_true_iff_two_mul_ge.trans (by omega)

/-- The shift of R162 doubles the byte and drops what leaves the eight bits. -/
theorem toNat_shiftLeft_one (acc : Byte) : (acc <<< 1).toNat = 2 * acc.toNat % 256 := by
  rw [BitVec.toNat_shiftLeft, Nat.shiftLeft_eq, Nat.mul_comm]

/-- Settles O21: bit 7 chooses the branch; where it is clear the doubled value fits in the byte. -/
theorem crcBitStepOnNumbers : Obligations.CrcBitStepOnNumbers := by
  unfold Obligations.CrcBitStepOnNumbers
  intro acc
  unfold crcBitStep
  by_cases hbit : acc.getLsbD 7 = true
  · have hlarge : 128 ≤ acc.toNat := (getLsbD_seven_iff acc).mp hbit
    rw [if_pos hbit, if_pos hlarge, BitVec.toNat_xor, toNat_shiftLeft_one]
    rfl
  · have hsmall : ¬128 ≤ acc.toNat := fun h => hbit ((getLsbD_seven_iff acc).mpr h)
    rw [if_neg hbit, if_neg hsmall, toNat_shiftLeft_one]
    omega

end Sys2Proof.Machine

/-! PROOF. The WRITE_BYTE that completes an unrecognised word (R102, R124, R182). -/

namespace Sys2Proof.Machine

/-- WRITE_BYTE below the maximum (R102). -/
theorem onWriteByte_store {s : State} {i : Fin 3} (data : Byte) (hi : s.writeIndex = i.castSucc) :
    onWriteByte data s = setOutput (.ack true) (runCommand (decodedCommand i data s) (storeByte i data s)) := by
  obtain ⟨j, -, hj, h⟩ | ⟨-, h3, -⟩ := onWriteByte_cases data s
  · obtain rfl : i = j := Fin.castSucc_injective 3 (hi.symm.trans hj)
    exact h
  · exact absurd (hi.symm.trans h3) (Fin.castSucc_ne_last i)

/-- Below the maximum a WRITE_BYTE is labelled by the command it completes (R187). -/
theorem raises_writeByte_store {s : State} {i : Fin 3} (data : Byte) (hi : s.writeIndex = i.castSucc) :
    raises (.writeByte data) s = commandRaises (decodedCommand i data s) := by
  simp only [raises, commandIndex_eq_some.mpr hi]

/-- The third byte, where it completes neither INIT nor TRIGGER, completes an unrecognised word (R120, R124). -/
theorem decodedCommand_last_unrecognized {data : Byte} {s : State} (hInit : s.writeBuffer[0] ≠ 0xBE#8)
    (hTrigger : ¬(s.writeBuffer[0] = 0x00#8 ∧ s.writeBuffer[1] = 0xAC#8 ∧ data = 0x33#8)) :
    decodedCommand 2 data s = .unrecognized s.writeBuffer[0] s.writeBuffer[1] data := by
  have hbytes : s.writeBuffer.set 2 data = #v[s.writeBuffer[0], s.writeBuffer[1], data] :=
    (commandBuffer_eq_iff _ _ _ _).mpr (by simp)
  refine (decodeCommand_eq_unrecognized_iff 3 data _ _ _ _).mpr ⟨rfl, hbytes, hInit, fun hword => hTrigger ?_⟩
  simpa using (commandBuffer_eq_iff _ _ _ _).mp (hbytes.symm.trans hword)

/-- Settles O13: the byte is stored at the last place, the decoder finds UNRECOGNIZED there, and that command writes the
cursor only. -/
theorem unrecognizedIsDiscarded : Obligations.UnrecognizedIsDiscarded := by
  unfold Obligations.UnrecognizedIsDiscarded
  intro data s hw hInit hTrigger
  have hlast : s.writeIndex = (2 : Fin 3).castSucc := Fin.ext hw
  have hfound := decodedCommand_last_unrecognized hInit hTrigger
  have hexec : exec (.writeByte data) s = .next (onWriteByte data s) := exec_event (.writeByte data) s
  constructor
  · rw [hexec, onWriteByte_store data hlast, hfound]
    rfl
  · rw [raises_writeByte_store data hlast, hfound]
    rfl

end Sys2Proof.Machine

/-! PROOF. The sensed values never change, and every frame of one instance is the same seven bytes (R215). -/

namespace Sys2Proof.Machine

/-- What every event keeps also holds after a trace. -/
theorem runState_keeps {P : State → Prop} (hkeeps : ∀ e s, P s → P (applyEvent e s)) (es : List Event) {s : State}
    (hs : P s) : P (runState es s) := by
  induction es generalizing s with
  | nil => exact hs
  | cons e rest ih => exact ih (hkeeps e s hs)

/-- No command writes the sensed values (R121 to R125). -/
theorem runCommand_sensed (c : Command) (s : State) :
    (runCommand c s).hum = s.hum ∧ (runCommand c s).temp = s.temp := by
  obtain ⟨-, h⟩ | ⟨x, y, -, h⟩ | ⟨-, h⟩ | ⟨b0, b1, b2, -, h⟩ | ⟨-, h⟩ := runCommand_cases c s <;>
    rw [h] <;> exact ⟨rfl, rfl⟩

theorem onReadByte_sensed (s : State) : (onReadByte s).hum = s.hum ∧ (onReadByte s).temp = s.temp := by
  obtain ⟨-, h⟩ | ⟨i, -, -, h⟩ | ⟨-, -, h⟩ := onReadByte_cases s <;> rw [h] <;> exact ⟨rfl, rfl⟩

theorem onWriteByte_sensed (data : Byte) (s : State) :
    (onWriteByte data s).hum = s.hum ∧ (onWriteByte data s).temp = s.temp := by
  obtain ⟨i, -, -, h⟩ | ⟨-, -, h⟩ := onWriteByte_cases data s <;> rw [h]
  · exact runCommand_sensed (decodedCommand i data s) (storeByte i data s)
  · exact ⟨rfl, rfl⟩

theorem applyEvent_sensed (e : Event) (s : State) :
    (applyEvent e s).hum = s.hum ∧ (applyEvent e s).temp = s.temp := by
  cases e with
  | connect address writeIntent =>
    rw [show applyEvent (.connect address writeIntent) s = onConnect address s from rfl, onConnect_eq]
    exact ⟨rfl, rfl⟩
  | readByte => exact onReadByte_sensed s
  | writeByte data => exact onWriteByte_sensed data s
  | disconnect => exact ⟨rfl, rfl⟩

/-- No trace writes the sensed values, from any state (R21, R22). -/
theorem runState_sensed (es : List Event) (s : State) :
    (runState es s).hum = s.hum ∧ (runState es s).temp = s.temp :=
  runState_keeps (P := fun t => t.hum = s.hum ∧ t.temp = s.temp)
    (fun e t ⟨hhum, htemp⟩ =>
      have ⟨hhumStep, htempStep⟩ := applyEvent_sensed e t
      ⟨hhumStep.trans hhum, htempStep.trans htemp⟩)
    es ⟨rfl, rfl⟩

/-- The two fields of `State.Inv` that fix the frame: the status at rest, which TRIGGER packs as byte 0, and the frame of
the sensed values wherever one is available (R26, R32 items 1 and 6). -/
structure FrameRule (s : State) : Prop where
  statusAtRest : s.status = Config.statusDefault
  frameReady : s.measuring = true → s.readBuffer = frame (rawHumidity s.hum) (rawTemperature s.temp)

/-- The busy bit of the status at rest is clear, so clearing it changes nothing (R216). -/
theorem clearBusy_statusDefault : Config.statusDefault &&& ~~~Config.statusBusy = Config.statusDefault := by decide

/-- TRIGGER packs the frame afresh from the sensed values and the status at rest; no other command writes the frame or
enters MEASURING. -/
theorem runCommand_frameRule (c : Command) {s : State} (hs : FrameRule s) : FrameRule (runCommand c s) := by
  obtain ⟨hstatus, hframe⟩ := hs
  obtain ⟨-, h⟩ | ⟨x, y, -, h⟩ | ⟨-, h⟩ | ⟨b0, b1, b2, -, h⟩ | ⟨-, h⟩ := runCommand_cases c s <;> rw [h]
  · exact ⟨rfl, nofun⟩
  · exact ⟨rfl, hframe⟩
  · rw [hstatus, clearBusy_statusDefault]
    exact ⟨rfl, fun _ => rfl⟩
  · exact ⟨hstatus, hframe⟩
  · exact ⟨hstatus, hframe⟩

theorem onReadByte_frameRule {s : State} (hs : FrameRule s) : FrameRule (onReadByte s) := by
  obtain ⟨hstatus, hframe⟩ := hs
  obtain ⟨-, h⟩ | ⟨i, -, -, h⟩ | ⟨-, -, h⟩ := onReadByte_cases s <;> rw [h]
  · exact ⟨hstatus, hframe⟩
  · exact ⟨hstatus, hframe⟩
  · rw [hstatus, clearBusy_statusDefault]
    exact ⟨rfl, nofun⟩

/-- The stored byte and the acknowledge lie outside the rule's fields; the rest is the completed command. -/
theorem onWriteByte_frameRule (data : Byte) {s : State} (hs : FrameRule s) : FrameRule (onWriteByte data s) := by
  obtain ⟨i, -, -, h⟩ | ⟨-, -, h⟩ := onWriteByte_cases data s <;> rw [h]
  · have hstore : FrameRule (storeByte i data s) := ⟨hs.statusAtRest, hs.frameReady⟩
    obtain ⟨hstatus, hframe⟩ := runCommand_frameRule (decodedCommand i data s) hstore
    exact ⟨hstatus, hframe⟩
  · exact ⟨hs.statusAtRest, hs.frameReady⟩

theorem applyEvent_frameRule (e : Event) (s : State) (hs : FrameRule s) : FrameRule (applyEvent e s) := by
  cases e with
  | connect address writeIntent =>
    rw [show applyEvent (.connect address writeIntent) s = onConnect address s from rfl, onConnect_eq]
    exact ⟨hs.statusAtRest, hs.frameReady⟩
  | readByte => exact onReadByte_frameRule hs
  | writeByte data => exact onWriteByte_frameRule data hs
  | disconnect => exact ⟨hs.statusAtRest, hs.frameReady⟩

/-- Construction leaves the block in IDLE with the status at rest (R36, R200). -/
theorem construct_frameRule {hum temp : Rat} {start : State} (h : construct hum temp = .next start) :
    FrameRule start := by
  unfold construct at h
  split at h
  · split at h
    · cases h
      exact ⟨rfl, nofun⟩
    · cases h
  · cases h

/-- The frame available after a trace is a function of the sensed values of the start alone (R215). -/
theorem runState_readBuffer (es : List Event) {start : State} (hs : FrameRule start)
    (hm : (runState es start).measuring = true) :
    (runState es start).readBuffer = frame (rawHumidity start.hum) (rawTemperature start.temp) := by
  obtain ⟨-, hframe⟩ := runState_keeps applyEvent_frameRule es hs
  obtain ⟨hhum, htemp⟩ := runState_sensed es start
  rw [hframe hm, hhum, htemp]

/-- Settles O34: no event writes the sensed values, and both frames are the one frame of the start's sensed values. -/
theorem sensedValuesNeverChange : Obligations.SensedValuesNeverChange := by
  unfold Obligations.SensedValuesNeverChange
  intro hum temp start es es' hstart
  have hrule : FrameRule start := construct_frameRule hstart
  obtain ⟨hhum, htemp⟩ := runState_sensed es start
  exact ⟨hhum, htemp, fun hm hm' => (runState_readBuffer es hrule hm).trans (runState_readBuffer es' hrule hm').symm⟩

end Sys2Proof.Machine

/-! PROOF. The result of TRIGGER, and what a WRITE_BYTE does by the position of its byte (R64, R102, R103, R120 to R126). -/

namespace Sys2Proof.Machine

@[simp] theorem applyEvent_connect (address : Nat) (writeIntent : Bool) (s : State) :
    applyEvent (.connect address writeIntent) s = onConnect address s := rfl
@[simp] theorem applyEvent_readByte (s : State) : applyEvent .readByte s = onReadByte s := rfl
@[simp] theorem applyEvent_writeByte (data : Byte) (s : State) :
    applyEvent (.writeByte data) s = onWriteByte data s := rfl
@[simp] theorem applyEvent_disconnect (s : State) : applyEvent .disconnect s = setOutput .nothing s := rfl

/-- CONNECT writes nothing of the block but the frame cursor (R100). -/
@[simp] theorem onConnect_measuring (address : Nat) (s : State) :
    (onConnect address s).measuring = s.measuring := by rw [onConnect_eq]

/-- Clearing the busy bit is the mask 0x7F that the rules write out (R101, R145). -/
theorem not_statusBusy : ~~~Config.statusBusy = 0x7F#8 := by decide

theorem decodeCommand_eq_trigger_iff (cursor : Nat) (data : Byte) (buffer : Vector Byte 3) :
    decodeCommand cursor data buffer = .trigger ↔ cursor = 3 ∧ buffer = #v[0x00#8, 0xAC#8, 0x33#8] := by
  obtain ⟨h1, -, h⟩ | ⟨-, h0, h⟩ | ⟨h3, hb, h⟩ | ⟨-, -, hb, h⟩ | ⟨-, h3, h⟩ :=
    decodeCommand_cases cursor data buffer <;> rw [h]
  · simp [h1]
  · refine iff_of_false nofun ?_
    rintro ⟨-, rfl⟩
    exact absurd h0 (by decide)
  · exact iff_of_true rfl ⟨h3, hb⟩
  · simp [hb]
  · simp [h3]

/-- Settles O11: the command's action is the one update of `triggerMeasurement_eq`, and the decoder's third branch has the
three bytes as its condition. -/
theorem triggerResult : Obligations.TriggerResult := by
  unfold Obligations.TriggerResult
  refine ⟨fun s => ?_, decodeCommand_eq_trigger_iff, rfl⟩
  rw [← not_statusBusy, ← triggerMeasurement_eq]
  exact exec_command .trigger s

/-- The command that the last byte of three completes (R120). -/
theorem decodedCommand_last (data : Byte) (s : State) :
    decodedCommand 2 data s =
      if s.writeBuffer[0] = 0xBE#8 then .init s.writeBuffer[1] data
      else if s.writeBuffer[0] = 0x00#8 ∧ s.writeBuffer[1] = 0xAC#8 ∧ data = 0x33#8 then .trigger
      else .unrecognized s.writeBuffer[0] s.writeBuffer[1] data := by
  rw [show decodedCommand 2 data s = decodeCommand 3 data (s.writeBuffer.set 2 data) from rfl, decodeCommand_three]
  simp

/-- A WRITE_BYTE at the first position: a SOFT_RESET or a byte that waits (R121, R125). -/
theorem onWriteByte_first {s : State} (data : Byte) (hw : s.writeIndex = 0) :
    onWriteByte data s = if data = 0xBA#8 then { s with
        writeBuffer := s.writeBuffer.set 0 data
        initialized := false
        measuring := false
        status := 0x18#8
        writeIndex := 0
        output := .ack true }
      else { s with
        writeBuffer := s.writeBuffer.set 0 data
        writeIndex := 1
        output := .ack true } := by
  have hfound : decodedCommand 0 data s = if data = 0xBA#8 then .softReset else .wait := decodeCommand_one data _
  rw [onWriteByte_store (i := 0) data hw, hfound]
  split <;> rfl

/-- A WRITE_BYTE at the second position completes nothing (R125). -/
theorem onWriteByte_second {s : State} (data : Byte) (hw : s.writeIndex = 1) :
    onWriteByte data s = { s with
      writeBuffer := s.writeBuffer.set 1 data
      writeIndex := 2
      output := .ack true } := by
  have hfound : decodedCommand 1 data s = .wait := decodeCommand_two data _
  rw [onWriteByte_store (i := 1) data hw, hfound]
  rfl

/-- A WRITE_BYTE at the third position: INIT, TRIGGER or an unrecognised word (R122 to R124). -/
theorem onWriteByte_third {s : State} (data : Byte) (hw : s.writeIndex = 2) :
    onWriteByte data s = if s.writeBuffer[0] = 0xBE#8 then { s with
        writeBuffer := s.writeBuffer.set 2 data
        initialized := true
        status := 0x18#8
        writeIndex := 0
        output := .ack true }
      else if s.writeBuffer[0] = 0x00#8 ∧ s.writeBuffer[1] = 0xAC#8 ∧ data = 0x33#8 then { s with
        writeBuffer := s.writeBuffer.set 2 data
        status := s.status &&& 0x7F#8
        readBuffer := frameOf (s.status &&& 0x7F#8) (rawHumidity s.hum) (rawTemperature s.temp)
        measuring := true
        writeIndex := 0
        output := .ack true }
      else { s with
        writeBuffer := s.writeBuffer.set 2 data
        writeIndex := 0
        output := .ack true } := by
  rw [onWriteByte_store (i := 2) data hw, decodedCommand_last]
  split
  · rfl
  · split
    · rw [show runCommand .trigger (storeByte 2 data s) = triggerMeasurement (storeByte 2 data s) from rfl,
        triggerMeasurement_eq, not_statusBusy]
      rfl
    · rfl

/-- A WRITE_BYTE at a full command buffer is turned away (R103, D6). -/
theorem onWriteByte_full {s : State} (data : Byte) (hw : s.writeIndex = 3) :
    onWriteByte data s = { s with output := .ack false, writeIndex := 0 } := by
  obtain ⟨i, -, hi, -⟩ | ⟨-, -, h⟩ := onWriteByte_cases data s
  · exact absurd (hi.symm.trans hw) (Fin.castSucc_ne_last i)
  · exact h

/-- Settles O15: one equation of WRITE_BYTE per position. -/
theorem commandEffectInTheLastByte : Obligations.CommandEffectInTheLastByte := by
  unfold Obligations.CommandEffectInTheLastByte
  intro data s
  have hexec : exec (.writeByte data) s = .next (onWriteByte data s) := exec_event (.writeByte data) s
  rw [hexec]
  exact ⟨fun h0 => congrArg _ (onWriteByte_first data (Fin.ext h0)),
    fun h1 => congrArg _ (onWriteByte_second data (Fin.ext h1)),
    fun h2 => congrArg _ (onWriteByte_third data (Fin.ext h2))⟩

/-- Settles O4: below the maximum, WRITE_BYTE is the meaning of the decoded command on the stored byte, with the
acknowledge written last. -/
theorem writeByteResult : Obligations.WriteByteResult := by
  unfold Obligations.WriteByteResult
  intro data i s hi
  have hexec : exec (.writeByte data) s = .next (onWriteByte data s) := exec_event (.writeByte data) s
  have hcursor : s.writeIndex = i.castSucc := Fin.ext hi
  refine ⟨runCommand (decodedCommand i data s) (storeByte i data s), exec_command _ _, ?_⟩
  rw [hexec, onWriteByte_store data hcursor]
  rfl

/-- Settles O5: the guard's update, and its label where the cursor has no effective index. -/
theorem overrunIsRejected : Obligations.OverrunIsRejected := by
  unfold Obligations.OverrunIsRejected
  intro data s h3
  have hfull : s.writeIndex = 3 := Fin.ext h3
  have hexec : exec (.writeByte data) s = .next (onWriteByte data s) := exec_event (.writeByte data) s
  refine ⟨by rw [hexec, onWriteByte_full data hfull], ?_⟩
  simp only [raises, commandIndex_eq_none.mpr hfull]

/-- Settles O8: the output of each event, from the lemma that says it. -/
theorem outputsOfTheInterface : Obligations.OutputsOfTheInterface := by
  unfold Obligations.OutputsOfTheInterface
  intro s
  obtain ⟨byte, hbyte⟩ := onReadByte_output s
  exact ⟨fun address writeIntent => ⟨_, _, exec_event (.connect address writeIntent) s, onConnect_output address s⟩,
    ⟨_, byte, exec_event .readByte s, hbyte⟩,
    fun data => ⟨_, _, exec_event (.writeByte data) s, onWriteByte_output data s⟩,
    ⟨_, exec_event .disconnect s, rfl⟩⟩

end Sys2Proof.Machine

/-! PROOF. The invariant of R26 and R32: construction meets it, every step keeps it, and what it says of reachable states. -/

namespace Sys2Proof.Machine

/-- The four positions of the command cursor. -/
theorem writeIndex_cases (s : State) :
    s.writeIndex = 0 ∨ s.writeIndex = 1 ∨ s.writeIndex = 2 ∨ s.writeIndex = 3 := by
  generalize s.writeIndex = w
  revert w
  decide

/-- What a WRITE_BYTE leaves in flight: nothing, or one more byte that completes no command (R74, R125). -/
theorem onWriteByte_inFlight (data : Byte) (s : State) :
    (onWriteByte data s).writeIndex = 0 ∨
    (s.writeIndex = 0 ∧ data ≠ 0xBA#8 ∧ (onWriteByte data s).writeIndex = 1 ∧
      (onWriteByte data s).writeBuffer = s.writeBuffer.set 0 data) ∨
    (s.writeIndex = 1 ∧ (onWriteByte data s).writeIndex = 2 ∧
      (onWriteByte data s).writeBuffer = s.writeBuffer.set 1 data) := by
  obtain hw | hw | hw | hw := writeIndex_cases s
  · rw [onWriteByte_first data hw]
    split
    · exact .inl rfl
    · exact .inr (.inl ⟨hw, ‹_›, rfl, rfl⟩)
  · rw [onWriteByte_second data hw]
    exact .inr (.inr ⟨hw, rfl, rfl⟩)
  · rw [onWriteByte_third data hw]
    refine .inl ?_
    split
    · rfl
    · split <;> rfl
  · rw [onWriteByte_full data hw]
    exact .inl rfl

/-- A partial command survives every event but WRITE_BYTE (R29, R30). -/
theorem applyEvent_keeps_inFlight {e : Event} (he : ∀ data, e ≠ .writeByte data) (s : State) :
    (applyEvent e s).writeIndex = s.writeIndex ∧ (applyEvent e s).writeBuffer = s.writeBuffer := by
  cases e with
  | connect address writeIntent =>
    rw [applyEvent_connect, onConnect_eq]
    exact ⟨rfl, rfl⟩
  | readByte =>
    rw [applyEvent_readByte]
    obtain ⟨-, h⟩ | ⟨i, -, -, h⟩ | ⟨-, -, h⟩ := onReadByte_cases s <;> rw [h] <;> exact ⟨rfl, rfl⟩
  | writeByte data => exact absurd rfl (he data)
  | disconnect => exact ⟨rfl, rfl⟩

/-- The two fields of `State.Inv` about the command in flight (R32 items 2 and 4). -/
structure InFlightRule (s : State) : Prop where
  cursorBelowThree : s.writeIndex.val < 3
  noResetInFlight : 1 ≤ s.writeIndex.val → s.writeBuffer[0] ≠ Config.cmdSoftReset

theorem inv_iff (s : State) : s.Inv ↔ FrameRule s ∧ InFlightRule s :=
  ⟨fun ⟨hstatus, hcursor, hbyte, hframe⟩ => ⟨⟨hstatus, hframe⟩, ⟨hcursor, hbyte⟩⟩,
    fun ⟨⟨hstatus, hframe⟩, ⟨hcursor, hbyte⟩⟩ => ⟨hstatus, hcursor, hbyte, hframe⟩⟩

/-- Nothing in flight meets the rule. -/
theorem inFlightRule_of_empty {s : State} (hw : s.writeIndex = 0) : InFlightRule s where
  cursorBelowThree := by simp [hw]
  noResetInFlight := by simp [hw]

/-- A first byte that waits is not 0xBA, and a second byte leaves the first in place. -/
theorem onWriteByte_inFlightRule (data : Byte) {s : State} (hs : InFlightRule s) :
    InFlightRule (onWriteByte data s) := by
  obtain hw | ⟨-, hdata, hw, hb⟩ | ⟨hold, hw, hb⟩ := onWriteByte_inFlight data s
  · exact inFlightRule_of_empty hw
  · refine ⟨by simp [hw], fun _ => ?_⟩
    rw [hb]
    simpa using hdata
  · have hfirst : s.writeBuffer[0] ≠ Config.cmdSoftReset := hs.noResetInFlight (by simp [hold])
    refine ⟨by simp [hw], fun _ => ?_⟩
    rw [hb]
    simpa using hfirst

theorem applyEvent_inFlightRule (e : Event) {s : State} (hs : InFlightRule s) : InFlightRule (applyEvent e s) := by
  by_cases he : ∃ data, e = .writeByte data
  · obtain ⟨data, rfl⟩ := he
    exact onWriteByte_inFlightRule data hs
  · obtain ⟨hw, hb⟩ := applyEvent_keeps_inFlight (fun data h => he ⟨data, h⟩) s
    exact ⟨by rw [hw]; exact hs.cursorBelowThree, by rw [hw, hb]; exact hs.noResetInFlight⟩

/-- Every event keeps the invariant, whatever trace it belongs to. -/
theorem applyEvent_keeps_inv (e : Event) (s : State) (hs : s.Inv) : (applyEvent e s).Inv := by
  obtain ⟨hframe, hflight⟩ := (inv_iff s).mp hs
  exact (inv_iff _).mpr ⟨applyEvent_frameRule e s hframe, applyEvent_inFlightRule e hflight⟩

/-- The pending samples and the output wires are outside the invariant. -/
theorem setInbox_keeps_inv (rest : List Ports) {s : State} (hs : s.Inv) : (setInbox rest s).Inv :=
  ⟨hs.statusAtRest, hs.cursorBelowThree, hs.noResetInFlight, hs.frameReady⟩

theorem setOutput_keeps_inv (v : Output) {s : State} (hs : s.Inv) : (setOutput v s).Inv :=
  ⟨hs.statusAtRest, hs.cursorBelowThree, hs.noResetInFlight, hs.frameReady⟩

/-- Settles O29: a step runs one event or none, and every event keeps the invariant. -/
theorem stepKeepsInv : Obligations.StepKeepsInv := by
  unfold Obligations.StepKeepsInv
  intro s t hs ht
  obtain ⟨-, h⟩ | ⟨p, rest, -, -, h⟩ | ⟨p, rest, w, -, -, h⟩ | ⟨p, rest, -, -, h⟩ := step_cases s <;>
    rw [h] at ht <;> cases ht
  · exact setOutput_keeps_inv _ hs
  · exact setOutput_keeps_inv _ (setInbox_keeps_inv rest hs)
  · exact applyEvent_keeps_inv _ _ (setInbox_keeps_inv rest hs)

/-- Construction answers exactly within the ranges, with the start state of the values given (R36, R200, D10). -/
theorem construct_eq_next_iff (hum temp : Rat) (start : State) :
    construct hum temp = .next start ↔
      ∃ (hHum : Config.humMin ≤ hum ∧ hum < Config.humMax) (hTemp : Config.tempMin ≤ temp ∧ temp < Config.tempMax),
        start = State.constructed ⟨hum, hHum⟩ ⟨temp, hTemp⟩ := by
  unfold construct
  split
  · split
    · rw [Host.Outcome.next.injEq]
      exact ⟨fun h => ⟨‹_›, ‹_›, h.symm⟩, fun ⟨_, _, h⟩ => h.symm⟩
    · exact iff_of_false nofun fun ⟨_, hTemp, _⟩ => absurd hTemp ‹_›
  · exact iff_of_false nofun fun ⟨hHum, _, _⟩ => absurd hHum ‹_›

/-- Outside the ranges construction is refused by name (R143, D10). -/
theorem construct_refused {hum temp : Rat}
    (h : ¬((Config.humMin ≤ hum ∧ hum < Config.humMax) ∧ (Config.tempMin ≤ temp ∧ temp < Config.tempMax))) :
    construct hum temp = .refused .configurationOutOfRange := by
  unfold construct
  split
  · split
    · exact absurd ⟨‹_›, ‹_›⟩ h
    · rfl
  · rfl

theorem constructed_inv (hum : Humidity) (temp : Temperature) : (State.constructed hum temp).Inv :=
  (inv_iff _).mpr ⟨⟨rfl, nofun⟩, inFlightRule_of_empty rfl⟩

/-- Settles O26: inside the ranges the start state has the values by definition, outside them there is none. -/
theorem constructionResult : Obligations.ConstructionResult := by
  unfold Obligations.ConstructionResult
  refine fun hum temp => ⟨fun ⟨hHum, hTemp⟩ => ?_, construct_refused⟩
  exact ⟨_, (construct_eq_next_iff hum temp _).mpr ⟨hHum, hTemp, rfl⟩, rfl, rfl, rfl, rfl, rfl, rfl, rfl⟩

/-- Settles O27: the configuration of the reset state is in range, whatever its draws are. -/
theorem resetIsAConstruction : Obligations.ResetIsAConstruction :=
  ⟨Config.humidity.percent, Config.temperature.celsius,
    (construct_eq_next_iff _ _ _).mpr ⟨Config.humidity.inRange, Config.temperature.inRange, rfl⟩⟩

/-- Settles O28: reset is a construction. -/
theorem resetMeetsInv : Obligations.ResetMeetsInv := constructed_inv _ _

/-- Settles O30: construction meets the invariant and every event of a trace keeps it. -/
theorem reachableStatesMeetInv : Obligations.ReachableStatesMeetInv := by
  rintro s ⟨hum, temp, start, es, hstart, rfl⟩
  obtain ⟨hHum, hTemp, rfl⟩ := (construct_eq_next_iff hum temp start).mp hstart
  exact runState_keeps applyEvent_keeps_inv es (constructed_inv _ _)

/-- Settles O31: the status is 0x18 there, whose bit 7 is 0 and bit 3 is 1. -/
theorem busyIsNeverSeen : Obligations.BusyIsNeverSeen := by
  intro s hs
  have hstatus := (reachableStatesMeetInv s hs).statusAtRest
  unfold busy calibrated
  rw [hstatus]
  decide

/-- Settles O32: in IDLE the read answers the status, and at cursor 0 the first byte of the frame, which is the status
that TRIGGER packed. -/
theorem statusReadsDefault : Obligations.StatusReadsDefault := by
  intro s hs hcase
  have hinv : s.Inv := reachableStatesMeetInv s hs
  refine ⟨onReadByte s, exec_event .readByte s, ?_⟩
  cases hm : s.measuring with
  | false =>
    rw [onReadByte_idle hm]
    exact congrArg Output.rdata hinv.statusAtRest
  | true =>
    have hcursor : s.readIndex = (0 : Fin 7).castSucc := hcase.resolve_left (by simp [hm])
    rw [onReadByte_frame hm hcursor, hinv.frameReady hm]
    rfl

/-- Below the maximum a byte is acknowledged (R102). -/
theorem onWriteByte_acknowledges (data : Byte) {s : State} (hs : s.Inv) :
    (onWriteByte data s).output = .ack true := by
  obtain ⟨i, -, -, h⟩ | ⟨-, h3, -⟩ := onWriteByte_cases data s
  · rw [h]
    rfl
  · exact absurd hs.cursorBelowThree (by simp [h3])

/-- Settles O33: the command cursor of a reachable state is below its maximum. -/
theorem everyWriteIsAcknowledged : Obligations.EveryWriteIsAcknowledged := fun data s hs =>
  ⟨onWriteByte data s, exec_event (.writeByte data) s, onWriteByte_acknowledges data (reachableStatesMeetInv s hs)⟩

end Sys2Proof.Machine

/-! PROOF. Who writes which field of the block (R20 to R30). -/

namespace Sys2Proof.Machine

theorem not_completes {e : Event} (he : ∀ data, e ≠ .writeByte data) (s : State) (c : Command) : ¬completes e s c :=
  fun ⟨data, _, h, _⟩ => he data h

theorem completes_writeByte_iff {data : Byte} {s : State} {i : Fin 3} (hi : commandIndex s = some i) (c : Command) :
    completes (.writeByte data) s c ↔ decodedCommand i data s = c := by
  constructor
  · rintro ⟨data', j, hdata, hj, hc⟩
    cases hdata
    obtain rfl : i = j := Option.some.inj (hi.symm.trans hj)
    exact hc
  · exact fun hc => ⟨data, i, rfl, hi, hc⟩

/-- A WRITE_BYTE completes one command and runs it on the stored byte, or completes none and is turned away (R102, R103,
R120). -/
theorem onWriteByte_completes (data : Byte) (s : State) :
    (∃ (i : Fin 3) (c : Command), s.writeIndex = i.castSucc ∧
        (∀ c', completes (.writeByte data) s c' ↔ c = c') ∧
        onWriteByte data s = setOutput (.ack true) (runCommand c (storeByte i data s))) ∨
    ((∀ c, ¬completes (.writeByte data) s c) ∧
        onWriteByte data s = { s with output := .ack false, writeIndex := 0 }) := by
  obtain ⟨i, hi, hw, h⟩ | ⟨hn, -, h⟩ := onWriteByte_cases data s
  · exact .inl ⟨i, decodedCommand i data s, hw, completes_writeByte_iff hi, h⟩
  · refine .inr ⟨?_, h⟩
    rintro c ⟨data', j, -, hj, -⟩
    simp [hn] at hj

/-- SOFT_RESET leaves MEASURING, TRIGGER enters it, no other command writes it (R121 to R125). -/
theorem runCommand_measuring (c : Command) (s : State) :
    (s.measuring = true → ((runCommand c s).measuring = false ↔ c = .softReset)) ∧
    (s.measuring = false → ((runCommand c s).measuring = true ↔ c = .trigger)) := by
  obtain ⟨rfl, h⟩ | ⟨x, y, rfl, h⟩ | ⟨rfl, h⟩ | ⟨b0, b1, b2, rfl, h⟩ | ⟨rfl, h⟩ := runCommand_cases c s <;>
    rw [h]
  · simp
  · simp +contextual
  · simp
  · simp +contextual
  · simp +contextual

/-- Settles O35: CONNECT and DISCONNECT leave the field, READ_BYTE clears it in its last case, and WRITE_BYTE writes it as
the completed command does. -/
theorem onlyTheseChangeMeasuring : Obligations.OnlyTheseChangeMeasuring := by
  unfold Obligations.OnlyTheseChangeMeasuring
  intro e s t ht
  rw [exec_event] at ht
  cases ht
  cases e with
  | connect address writeIntent =>
    rw [applyEvent_connect, onConnect_measuring]
    simp +contextual [not_completes]
  | readByte =>
    obtain ⟨hm, h⟩ | ⟨i, hm, hi, h⟩ | ⟨hm, h7, h⟩ := onReadByte_cases s <;>
      rw [applyEvent_readByte, h]
    · simp [hm, not_completes]
    · have hlow : i.val ≠ 7 := i.isLt.ne
      simp [hm, hi, hlow, not_completes]
    · simp [hm, h7]
  | writeByte data =>
    rw [applyEvent_writeByte]
    obtain ⟨i, c, -, hc, h⟩ | ⟨hnone, h⟩ := onWriteByte_completes data s <;> rw [h]
    · obtain ⟨hout, hin⟩ := runCommand_measuring c (storeByte i data s)
      simpa [hc] using And.intro hout hin
    · simp +contextual [hnone]
  | disconnect =>
    rw [applyEvent_disconnect]
    simp +contextual [not_completes]

/-- No command writes the frame cursor, SOFT_RESET and TRIGGER among them (R28, R121, R123). -/
theorem runCommand_readIndex (c : Command) (s : State) : (runCommand c s).readIndex = s.readIndex := by
  obtain ⟨-, h⟩ | ⟨x, y, -, h⟩ | ⟨-, h⟩ | ⟨b0, b1, b2, -, h⟩ | ⟨-, h⟩ := runCommand_cases c s <;> rw [h]

theorem onWriteByte_readIndex (data : Byte) (s : State) : (onWriteByte data s).readIndex = s.readIndex := by
  obtain ⟨i, -, -, h⟩ | ⟨-, -, h⟩ := onWriteByte_cases data s <;> rw [h]
  exact runCommand_readIndex (decodedCommand i data s) (storeByte i data s)

/-- Settles O36: CONNECT writes the cursor on a match in MEASURING, READ_BYTE writes it in MEASURING, nothing else does. -/
theorem onlyTheseWriteReadIndex : Obligations.OnlyTheseWriteReadIndex := by
  unfold Obligations.OnlyTheseWriteReadIndex
  constructor
  · intro e s t ht hne
    rw [exec_event] at ht
    cases ht
    cases e with
    | connect address writeIntent =>
      rw [applyEvent_connect, onConnect_eq] at hne
      obtain ⟨rfl, hm⟩ : address = 0x38 ∧ s.measuring = true := by
        by_contra hno
        exact hne (if_neg hno)
      exact ⟨hm, .inr ⟨writeIntent, rfl⟩⟩
    | readByte =>
      cases hm : s.measuring with
      | false => exact absurd (congrArg State.readIndex (onReadByte_idle hm)) hne
      | true => exact ⟨rfl, .inl rfl⟩
    | writeByte data => exact absurd (onWriteByte_readIndex data s) hne
    | disconnect => exact absurd rfl hne
  · intro c s t ht
    rw [exec_command] at ht
    cases ht
    exact runCommand_readIndex c s

/-- Settles O37: every command but WAIT leaves the cursor at 0, and WAIT leaves it where the store put it. -/
theorem onlyWriteByteMovesTheCommand : Obligations.OnlyWriteByteMovesTheCommand := by
  unfold Obligations.OnlyWriteByteMovesTheCommand
  intro e s t ht
  rw [exec_event] at ht
  cases ht
  refine ⟨fun he => applyEvent_keeps_inFlight he s, ?_⟩
  rintro data rfl
  rw [applyEvent_writeByte]
  obtain ⟨i, c, hi, hc, h⟩ | ⟨-, h⟩ := onWriteByte_completes data s <;> rw [h]
  · obtain ⟨-, h⟩ | ⟨x, y, -, h⟩ | ⟨-, h⟩ | ⟨b0, b1, b2, -, h⟩ | ⟨hwait, h⟩ :=
      runCommand_cases c (storeByte i data s) <;> rw [h]
    · exact .inl rfl
    · exact .inl rfl
    · exact .inl rfl
    · exact .inl rfl
    · exact .inr ⟨by simp [hi], (hc .wait).mpr hwait⟩
  · exact .inl rfl

/-- Which command writes the frame, `initialized` and `status`, and what status it leaves (R121 to R125). -/
theorem runCommand_writes (c : Command) (s : State) :
    ((runCommand c s).readBuffer ≠ s.readBuffer → c = .trigger) ∧
    ((runCommand c s).initialized ≠ s.initialized → c = .softReset ∨ ∃ x y, c = .init x y) ∧
    ((runCommand c s).status ≠ s.status →
      ((runCommand c s).status = 0x18#8 ∧ (c = .softReset ∨ ∃ x y, c = .init x y)) ∨
      ((runCommand c s).status = s.status &&& 0x7F#8 ∧ c = .trigger)) := by
  obtain ⟨hc, h⟩ | ⟨x, y, hc, h⟩ | ⟨hc, h⟩ | ⟨b0, b1, b2, -, h⟩ | ⟨-, h⟩ := runCommand_cases c s <;> rw [h]
  · exact ⟨(absurd rfl ·), fun _ => .inl hc, fun _ => .inl ⟨rfl, .inl hc⟩⟩
  · exact ⟨(absurd rfl ·), fun _ => .inr ⟨x, y, hc⟩, fun _ => .inl ⟨rfl, .inr ⟨x, y, hc⟩⟩⟩
  · exact ⟨fun _ => hc, (absurd rfl ·), fun _ => .inr ⟨congrArg (s.status &&& ·) not_statusBusy, hc⟩⟩
  · exact ⟨(absurd rfl ·), (absurd rfl ·), (absurd rfl ·)⟩
  · exact ⟨(absurd rfl ·), (absurd rfl ·), (absurd rfl ·)⟩

/-- Settles O38: a WRITE_BYTE writes these fields as the completed command does, a READ_BYTE clears the busy bit where it
ends the frame, the other events write none of them. -/
theorem onlyTheseWriteTheRest : Obligations.OnlyTheseWriteTheRest := by
  unfold Obligations.OnlyTheseWriteTheRest
  intro e s t ht
  rw [exec_event] at ht
  cases ht
  obtain ⟨hhum, htemp⟩ := applyEvent_sensed e s
  refine ⟨hhum, htemp, ?_⟩
  cases e with
  | connect address writeIntent =>
    rw [applyEvent_connect, onConnect_eq]
    exact ⟨(absurd rfl ·), (absurd rfl ·), (absurd rfl ·)⟩
  | readByte =>
    rw [applyEvent_readByte]
    obtain ⟨-, h⟩ | ⟨i, -, -, h⟩ | ⟨hm, h7, -⟩ := onReadByte_cases s
    · rw [h]
      exact ⟨(absurd rfl ·), (absurd rfl ·), (absurd rfl ·)⟩
    · rw [h]
      exact ⟨(absurd rfl ·), (absurd rfl ·), (absurd rfl ·)⟩
    · rw [onReadByte_end hm h7]
      exact ⟨(absurd rfl ·), (absurd rfl ·),
        fun _ => .inr ⟨rfl, .inr ⟨rfl, hm, congrArg Fin.val h7⟩⟩⟩
  | writeByte data =>
    rw [applyEvent_writeByte]
    obtain ⟨i, c, -, hc, h⟩ | ⟨-, h⟩ := onWriteByte_completes data s <;> rw [h]
    · obtain ⟨hframe, hinit, hstatus⟩ := runCommand_writes c (storeByte i data s)
      simp only [hc]
      exact ⟨hframe, hinit, fun hne => (hstatus hne).imp_right (And.imp_right .inl)⟩
    · exact ⟨(absurd rfl ·), (absurd rfl ·), (absurd rfl ·)⟩
  | disconnect => exact ⟨(absurd rfl ·), (absurd rfl ·), (absurd rfl ·)⟩

end Sys2Proof.Machine

/-! PROOF. The frame cursor in direction-consistent traces, and the other facts about the ghost of R62 (R181, R184, R214). -/

namespace Sys2Proof.Machine

/-- The ghost that a trace leaves (R62). -/
def runLink (l : Link) (es : List Event) (s : State) : Link :=
  match es with
  | [] => l
  | e :: rest => runLink (l.after e (applyEvent e s)) rest (applyEvent e s)

theorem runState_append (es es' : List Event) (s : State) :
    runState (es ++ es') s = runState es' (runState es s) := by
  induction es generalizing s with
  | nil => rfl
  | cons e rest ih => exact ih (applyEvent e s)

/-- The ghost addresses the block after a CONNECT exactly where it matched (R62, R72). -/
theorem after_connect (l : Link) (address : Nat) (writeIntent : Bool) (s : State) :
    l.after (.connect address writeIntent) (onConnect address s) = ⟨decide (address = 0x38), some writeIntent⟩ := by
  have hout : (onConnect address s).output = .ack (decide (address = 0x38)) := by rw [onConnect_eq]
  unfold Link.after
  rw [hout]
  cases decide (address = 0x38) <;> rfl

/-! ## The cursor rule -/

/-- Settles O56: the start state has the cursor at 0, and nothing is addressed. -/
theorem constructionMeetsCursorRule : Obligations.ConstructionMeetsCursorRule := by
  intro hum temp start hstart
  obtain ⟨hHum, hTemp, rfl⟩ := (construct_eq_next_iff hum temp start).mp hstart
  exact ⟨fun _ => rfl, nofun, nofun⟩

/-- A byte written in direction finds the frame cursor at 0: the open transaction is a write to this block. -/
theorem readIndex_of_write {l : Link} {s : State} {data : Byte} (hs : CursorRule l s)
    (hallows : l.allows (.writeByte data) = true) (hdir : l.inDirection (.writeByte data) = true) :
    s.readIndex = 0 := by
  have haddressed : l.addressed = true := hallows
  have hintent : l.intent = some true := by
    have hsome := hs.hasDirection haddressed
    cases hi : l.intent with
    | none => exact absurd hi hsome
    | some w =>
      cases w with
      | true => rfl
      | false => simp [Link.inDirection, hi] at hdir
  exact hs.writing haddressed hintent

/-- A CONNECT of either direction leaves the cursor at 0 in IDLE, and on a match in MEASURING too (R100). -/
theorem onConnect_cursorRule (l : Link) (address : Nat) (writeIntent : Bool) {s : State} (hs : CursorRule l s) :
    CursorRule (l.after (.connect address writeIntent) (onConnect address s)) (onConnect address s) := by
  rw [after_connect, onConnect_eq]
  refine ⟨fun hm => ?_, nofun, fun haddressed _ => ?_⟩
  · have hzero : s.readIndex = 0 := hs.idle hm
    simp [hzero]
  · have hmatch : address = 0x38 := of_decide_eq_true haddressed
    cases hm : s.measuring with
    | true => simp [hmatch]
    | false => simp [hs.idle hm]

/-- A read in direction is no part of a write transaction, and the read that enters IDLE resets the cursor (R101). -/
theorem onReadByte_cursorRule {l : Link} {s : State} (hs : CursorRule l s)
    (hdir : l.inDirection .readByte = true) : CursorRule l (onReadByte s) := by
  have hintent : l.intent ≠ some true := bne_iff_ne.mp hdir
  refine ⟨fun hm => ?_, hs.hasDirection, fun _ hw => absurd hw hintent⟩
  obtain ⟨hold, h⟩ | ⟨i, hold, -, h⟩ | ⟨-, -, h⟩ := onReadByte_cases s <;> rw [h] at hm ⊢
  · exact hs.idle hold
  · exact absurd (hold.symm.trans hm) (by decide)

/-- The rule's step on the model's event function. -/
theorem applyEvent_cursorRule {l : Link} {e : Event} {s : State} (hs : CursorRule l s) (hallows : l.allows e = true)
    (hdir : l.inDirection e = true) : CursorRule (l.after e (applyEvent e s)) (applyEvent e s) := by
  cases e with
  | connect address writeIntent => exact onConnect_cursorRule l address writeIntent hs
  | readByte => exact onReadByte_cursorRule hs hdir
  | writeByte data =>
    have hzero : (onWriteByte data s).readIndex = 0 :=
      (onWriteByte_readIndex data s).trans (readIndex_of_write hs hallows hdir)
    exact ⟨fun _ => hzero, hs.hasDirection, fun _ _ => hzero⟩
  | disconnect => exact ⟨hs.idle, nofun, nofun⟩

/-- Settles O57: `exec` applies the event, and each event keeps the rule. -/
theorem eventKeepsCursorRule : Obligations.EventKeepsCursorRule := by
  unfold Obligations.EventKeepsCursorRule
  intro l e s t hs hallows hdir ht
  rw [exec_event] at ht
  cases ht
  exact applyEvent_cursorRule hs hallows hdir

/-- A direction-consistent trace keeps the rule. -/
theorem runState_cursorRule {l : Link} {es : List Event} {s : State} (hs : CursorRule l s)
    (hes : directionConsistent l es s = true) : CursorRule (runLink l es s) (runState es s) := by
  induction es generalizing l s with
  | nil => exact hs
  | cons e rest ih =>
    simp only [directionConsistent, Bool.and_eq_true] at hes
    obtain ⟨⟨hallows, hdir⟩, hrest⟩ := hes
    exact ih (applyEvent_cursorRule hs hallows hdir) hrest

/-- The last event of a direction-consistent trace is allowed, and in direction, where the trace before it ends. -/
theorem directionConsistent_last {l : Link} {es : List Event} {e : Event} {s : State}
    (h : directionConsistent l (es ++ [e]) s = true) :
    (runLink l es s).allows e = true ∧ (runLink l es s).inDirection e = true := by
  induction es generalizing l s with
  | nil => simpa [directionConsistent, runLink] using h
  | cons e' rest ih =>
    simp only [List.cons_append, directionConsistent, Bool.and_eq_true] at h
    exact ih h.2

/-- Settles O49: the rule holds after the trace; in IDLE it says the first half, and for a byte that may follow the
second. -/
theorem directionConsistentCursorIsZero : Obligations.DirectionConsistentCursorIsZero := by
  unfold Obligations.DirectionConsistentCursorIsZero
  intro hum temp start es hstart hes
  have hrule : CursorRule (runLink Link.start es start) (runState es start) :=
    runState_cursorRule (constructionMeetsCursorRule hum temp start hstart) hes
  refine ⟨hrule.idle, fun data hlast _ => ?_⟩
  obtain ⟨hallows, hdir⟩ := directionConsistent_last hlast
  exact readIndex_of_write hrule hallows hdir

/-! ## Refused addresses -/

/-- While nothing is addressed, a well-formed trace without an acknowledged CONNECT moves no byte. -/
theorem wellFormedTrace_moves_no_byte {l : Link} {es : List Event} {s : State} (hl : l.addressed = false)
    (hes : wellFormedTrace l es s = true) (hno : ∀ writeIntent, Event.connect 0x38 writeIntent ∉ es) :
    ∀ e ∈ es, e ≠ .readByte ∧ ∀ data, e ≠ .writeByte data := by
  induction es generalizing l s with
  | nil => exact nofun
  | cons e rest ih =>
    simp only [wellFormedTrace, Bool.and_eq_true] at hes
    obtain ⟨hallows, hrest⟩ := hes
    have hnoRest : ∀ writeIntent, Event.connect 0x38 writeIntent ∉ rest := fun w h => hno w (List.mem_cons_of_mem e h)
    rw [List.forall_mem_cons]
    cases e with
    | connect address writeIntent =>
      have hmismatch : address ≠ 0x38 := by
        rintro rfl
        exact hno writeIntent List.mem_cons_self
      refine ⟨⟨nofun, nofun⟩, ih ?_ hrest hnoRest⟩
      rw [applyEvent_connect, after_connect]
      exact decide_eq_false hmismatch
    | readByte => simp [Link.allows, hl] at hallows
    | writeByte data => simp [Link.allows, hl] at hallows
    | disconnect => exact ⟨⟨nofun, nofun⟩, ih rfl hrest hnoRest⟩

/-- Settles O2: the mismatch leaves the cursor too, and the ghost after it addresses nothing. -/
theorem addressMismatchTouchesNothing : Obligations.AddressMismatchTouchesNothing := by
  unfold Obligations.AddressMismatchTouchesNothing
  intro address writeIntent l s hmismatch
  have hconnect : onConnect address s = setOutput (.ack false) s := by
    rw [onConnect_eq]
    simp [hmismatch, setOutput]
  refine ⟨onConnect address s, exec_event (.connect address writeIntent) s, ?_, ?_, ?_, fun es hes hno => ?_⟩
  · rw [hconnect]
    exact sameBlock_setOutput _ s
  · rw [hconnect]
    rfl
  · rw [raises_connect_eq, if_neg hmismatch]
  · refine wellFormedTrace_moves_no_byte ?_ hes hno
    rw [after_connect]
    exact decide_eq_false hmismatch

/-! ## Spurious reads -/

/-- The two events that move a byte; neither opens nor ends a transaction. -/
def IsByteEvent (e : Event) : Prop := e = .readByte ∨ ∃ data, e = .writeByte data

/-- The trace ends inside a transaction that the block acknowledged: no CONNECT or DISCONNECT after its CONNECT. -/
def EndsConnected (es : List Event) : Prop :=
  ∃ (before after : List Event) (writeIntent : Bool),
    es = before ++ .connect 0x38 writeIntent :: after ∧ ∀ e ∈ after, IsByteEvent e

theorem endsConnected_cons (e : Event) (rest : List Event) :
    EndsConnected (e :: rest) ↔
      ((∃ writeIntent, e = .connect 0x38 writeIntent) ∧ ∀ e' ∈ rest, IsByteEvent e') ∨ EndsConnected rest := by
  constructor
  · rintro ⟨before, after, w, hes, hafter⟩
    cases before with
    | nil =>
      obtain ⟨rfl, rfl⟩ := List.cons.inj hes
      exact .inl ⟨⟨w, rfl⟩, hafter⟩
    | cons e' before =>
      obtain ⟨rfl, rfl⟩ := List.cons.inj hes
      exact .inr ⟨before, after, w, rfl, hafter⟩
  · rintro (⟨⟨w, rfl⟩, hrest⟩ | ⟨before, after, w, rfl, hafter⟩)
    · exact ⟨[], rest, w, rfl, hrest⟩
    · exact ⟨e :: before, after, w, rfl, hafter⟩

/-- The block is addressed after a trace exactly where it was before and only bytes moved, or where the trace itself ends
connected (R62). -/
theorem runLink_addressed_iff (l : Link) (es : List Event) (s : State) :
    (runLink l es s).addressed = true ↔ (l.addressed = true ∧ ∀ e ∈ es, IsByteEvent e) ∨ EndsConnected es := by
  induction es generalizing l s with
  | nil => simp [runLink, EndsConnected]
  | cons e rest ih =>
    rw [endsConnected_cons, List.forall_mem_cons, runLink, ih]
    cases e with
    | connect address writeIntent =>
      rw [applyEvent_connect, after_connect]
      simp [IsByteEvent]
    | readByte => simp [Link.after, IsByteEvent]
    | writeByte data => simp [Link.after, IsByteEvent]
    | disconnect => simp [Link.after, IsByteEvent]

/-- The label of the last event is taken in the ghost and the state that the events before it leave. -/
theorem runLabels_last (l : Link) (es : List Event) (e : Event) (s : State) :
    (runLabels l (es ++ [e]) s).getLast? = some (eventLabel (runLink l es s) e (runState es s)) := by
  induction es generalizing l s with
  | nil => rfl
  | cons e' rest ih =>
    have hlast := ih (l.after e' (applyEvent e' s)) (applyEvent e' s)
    rw [List.cons_append, runLabels, List.getLast?_cons, hlast]
    rfl

/-- No event raises SpuriousRead by itself: it is a label of the trace (R184, R187). -/
theorem raises_ne_spuriousRead (e : Event) (s : State) : raises e s ≠ some .spuriousRead := by
  cases e with
  | connect address writeIntent =>
    rw [raises_connect_eq]
    split <;> nofun
  | readByte => nofun
  | writeByte data =>
    cases hi : commandIndex s with
    | none => simp [raises, hi]
    | some i =>
      have hr : raises (.writeByte data) s = commandRaises (decodedCommand i data s) := by simp only [raises, hi]
      obtain h | h := commandRaises_cases (decodedCommand i data s) <;> simp [hr, h]
  | disconnect => nofun

/-- The label is SpuriousRead exactly for a READ_BYTE while nothing is addressed (R184). -/
theorem eventLabel_eq_spuriousRead_iff (l : Link) (e : Event) (s : State) :
    eventLabel l e s = some .spuriousRead ↔ e = .readByte ∧ l.addressed = false := by
  cases e with
  | connect address writeIntent => exact iff_of_false (raises_ne_spuriousRead (.connect address writeIntent) s) nofun
  | readByte => cases hl : l.addressed <;> simp [eventLabel, hl]
  | writeByte data => exact iff_of_false (raises_ne_spuriousRead (.writeByte data) s) nofun
  | disconnect => exact iff_of_false (raises_ne_spuriousRead .disconnect s) nofun

/-- A well-formed trace reads only while the block is addressed, so it holds no spurious read. -/
theorem wellFormedTrace_no_spuriousRead {l : Link} {es : List Event} {s : State}
    (hes : wellFormedTrace l es s = true) : some Condition.spuriousRead ∉ runLabels l es s := by
  induction es generalizing l s with
  | nil => exact nofun
  | cons e rest ih =>
    simp only [wellFormedTrace, Bool.and_eq_true] at hes
    obtain ⟨hallows, hrest⟩ := hes
    rw [runLabels, List.mem_cons, not_or]
    refine ⟨fun hlabel => ?_, ih hrest⟩
    obtain ⟨rfl, hl⟩ := (eventLabel_eq_spuriousRead_iff l e s).mp hlabel.symm
    simp [Link.allows, hl] at hallows

/-- Settles O54: the label of the last read is a fact about the ghost, which the trace alone determines, and the read
itself is `onReadByte` in the state that the trace leaves. -/
theorem spuriousReadLabelAndEffect : Obligations.SpuriousReadLabelAndEffect := by
  unfold Obligations.SpuriousReadLabelAndEffect
  refine ⟨fun es s => ?_, fun l e s he => ?_, fun es l s => wellFormedTrace_no_spuriousRead, ?_⟩
  · have haddressed := runLink_addressed_iff Link.start es s
    rw [runLabels_last, Option.some_inj, eventLabel_eq_spuriousRead_iff, ← Bool.not_eq_true, haddressed]
    simp [Link.start, EndsConnected, IsByteEvent]
  · exact fun hlabel => he ((eventLabel_eq_spuriousRead_iff l e s).mp hlabel).1
  · rintro es s u rfl
    have hlast : runState (es ++ [.readByte]) s = onReadByte (runState es s) := runState_append es [.readByte] s
    rw [hlast]
    exact ⟨onReadByte_idle, fun i hm hi => onReadByte_frame hm (Fin.ext hi),
      fun hm h7 => ⟨_, _, onReadByte_end hm (Fin.ext h7)⟩⟩

end Sys2Proof.Machine

/-! PROOF. States that agree on all that is live stay in agreement, and no output tells them apart (R32 items 5 and 6, R35). -/

namespace Sys2Proof.Machine

/-- The decoder reads the bytes below the cursor and no other (R120). -/
theorem decodeCommand_congr {cursor : Nat} (data : Byte) {buffer buffer' : Vector Byte 3}
    (h : ∀ i : Fin 3, i.val < cursor → buffer'[i] = buffer[i]) :
    decodeCommand cursor data buffer' = decodeCommand cursor data buffer := by
  by_cases h3 : cursor = 3
  · subst h3
    have hbuffer : buffer' = buffer := Vector.ext fun i hi => h ⟨i, hi⟩ hi
    rw [hbuffer]
  · simp [decodeCommand, h3]

/-- A byte stored below the maximum is live in both states, and so are the bytes before it. -/
theorem storeByte_agree {s t : State} (h : AgreeOnLive s t) {i : Fin 3} (data : Byte)
    (hi : s.writeIndex = i.castSucc) : AgreeOnLive (storeByte i data s) (storeByte i data t) where
  hum := h.hum
  temp := h.temp
  measuring := h.measuring
  status := h.status
  readIndex := h.readIndex
  writeIndex := rfl
  readBuffer := h.readBuffer
  writeBuffer j hj := by
    show (memWrite i data t).writeBuffer[j] = (memWrite i data s).writeBuffer[j]
    rw [memWrite_getElem, memWrite_getElem]
    split
    · rfl
    · refine h.writeBuffer j ?_
      have hle : j.val < i.val + 1 := hj
      have hne : i.val ≠ j.val := fun heq => ‹¬i = j› (Fin.ext heq)
      rw [hi]
      exact show j.val < i.val by omega

/-- Agreement on all but the command in flight, with no command in flight. -/
theorem agreeOnLive_of_empty {s t : State} (hhum : t.hum = s.hum) (htemp : t.temp = s.temp)
    (hmeasuring : t.measuring = s.measuring) (hstatus : t.status = s.status) (hcursor : t.readIndex = s.readIndex)
    (hframe : s.measuring = true → t.readBuffer = s.readBuffer) (hs : s.writeIndex = 0) (ht : t.writeIndex = 0) :
    AgreeOnLive s t where
  hum := hhum
  temp := htemp
  measuring := hmeasuring
  status := hstatus
  readIndex := hcursor
  writeIndex := ht.trans hs.symm
  readBuffer := hframe
  writeBuffer i hi := by simp [hs] at hi

/-- A command reads live fields only: INIT drops `initialized`, TRIGGER packs the frame from the sensed values and the
status. -/
theorem runCommand_agree (c : Command) {s t : State} (h : AgreeOnLive s t) :
    AgreeOnLive (runCommand c s) (runCommand c t) := by
  cases c with
  | softReset => exact agreeOnLive_of_empty h.hum h.temp rfl rfl h.readIndex nofun rfl rfl
  | init x y => exact agreeOnLive_of_empty h.hum h.temp h.measuring rfl h.readIndex h.readBuffer rfl rfl
  | trigger =>
    show AgreeOnLive (triggerMeasurement s) (triggerMeasurement t)
    rw [triggerMeasurement_eq, triggerMeasurement_eq, h.hum, h.temp, h.status]
    exact agreeOnLive_of_empty rfl rfl rfl rfl h.readIndex (fun _ => rfl) rfl rfl
  | unrecognized b0 b1 b2 =>
    exact agreeOnLive_of_empty h.hum h.temp h.measuring h.status h.readIndex h.readBuffer rfl rfl
  | wait => exact h

theorem setOutput_agree {s t : State} (h : AgreeOnLive s t) (v w : Output) :
    AgreeOnLive (setOutput v s) (setOutput w t) :=
  ⟨h.hum, h.temp, h.measuring, h.status, h.readIndex, h.writeIndex, h.readBuffer, h.writeBuffer⟩

theorem onConnect_agree (address : Nat) {s t : State} (h : AgreeOnLive s t) :
    AgreeOnLive (onConnect address s) (onConnect address t) := by
  rw [onConnect_eq, onConnect_eq]
  have hcursor : (if address = 0x38 ∧ t.measuring = true then 0 else t.readIndex) =
      if address = 0x38 ∧ s.measuring = true then 0 else s.readIndex := by rw [h.measuring, h.readIndex]
  exact ⟨h.hum, h.temp, h.measuring, h.status, hcursor, h.writeIndex, h.readBuffer, h.writeBuffer⟩

/-- A READ_BYTE: the status and the frame it reads are live, and the end of the frame leaves IDLE in both. -/
theorem onReadByte_agree {s t : State} (h : AgreeOnLive s t) :
    AgreeOnLive (onReadByte s) (onReadByte t) ∧
      (readsFiller .readByte s = false → (onReadByte s).output = (onReadByte t).output) := by
  obtain ⟨hm, hs⟩ | ⟨i, hm, hi, hs⟩ | ⟨hm, h7, hs⟩ := onReadByte_cases s
  · have ht := onReadByte_idle (h.measuring.trans hm)
    rw [hs, ht]
    exact ⟨setOutput_agree h _ _, fun _ => congrArg Output.rdata h.status.symm⟩
  · have ht := onReadByte_frame (h.measuring.trans hm) (h.readIndex.trans hi)
    rw [hs, ht]
    exact ⟨⟨h.hum, h.temp, h.measuring, h.status, rfl, h.writeIndex, h.readBuffer, h.writeBuffer⟩,
      fun _ => congrArg (fun frame : Vector Byte 7 => Output.rdata frame[i]) (h.readBuffer hm).symm⟩
  · have ht := onReadByte_end (h.measuring.trans hm) (h.readIndex.trans h7)
    rw [onReadByte_end hm h7, ht]
    refine ⟨⟨h.hum, h.temp, rfl, congrArg (· &&& 0x7F#8) h.status, rfl, h.writeIndex, nofun, h.writeBuffer⟩, ?_⟩
    simp [readsFiller, hm, frameIndex_eq_none.mpr h7]

/-- A WRITE_BYTE completes the same command in both states. -/
theorem onWriteByte_agree (data : Byte) {s t : State} (h : AgreeOnLive s t) :
    AgreeOnLive (onWriteByte data s) (onWriteByte data t) ∧
      (onWriteByte data s).output = (onWriteByte data t).output := by
  obtain ⟨i, -, hi, hs⟩ | ⟨-, h3, hs⟩ := onWriteByte_cases data s
  · have hstore : AgreeOnLive (storeByte i data s) (storeByte i data t) := storeByte_agree h data hi
    have hfound : decodedCommand i data t = decodedCommand i data s := decodeCommand_congr data hstore.writeBuffer
    rw [hs, onWriteByte_store data (h.writeIndex.trans hi), hfound]
    exact ⟨setOutput_agree (runCommand_agree _ hstore) _ _, rfl⟩
  · rw [hs, onWriteByte_full data (h.writeIndex.trans h3)]
    exact ⟨agreeOnLive_of_empty h.hum h.temp h.measuring h.status h.readIndex h.readBuffer rfl rfl, rfl⟩

/-- Whether the next read returns FILLER is decided by live fields. -/
theorem readsFiller_agree (e : Event) {s t : State} (h : AgreeOnLive s t) : readsFiller e s = readsFiller e t := by
  cases e with
  | readByte => simp [readsFiller, frameIndex, h.measuring, h.readIndex]
  | connect | writeByte | disconnect => rfl

/-- Two states in agreement take an event to states in agreement, with one output where it is no FILLER. -/
theorem applyEvent_agree (e : Event) {s t : State} (h : AgreeOnLive s t) :
    AgreeOnLive (applyEvent e s) (applyEvent e t) ∧
      (readsFiller e s = false → (applyEvent e s).output = (applyEvent e t).output) := by
  cases e with
  | connect address writeIntent => exact ⟨onConnect_agree address h, fun _ => rfl⟩
  | readByte => exact onReadByte_agree h
  | writeByte data => exact (onWriteByte_agree data h).imp_right fun hout _ => hout
  | disconnect => exact ⟨setOutput_agree h _ _, fun _ => rfl⟩

/-- Settles O58: `exec` applies the event in both states. -/
theorem eventKeepsAgreement : Obligations.EventKeepsAgreement := by
  unfold Obligations.EventKeepsAgreement
  intro e s t h
  obtain ⟨hagree, hout⟩ := applyEvent_agree e h
  exact ⟨_, _, exec_event e s, exec_event e t, hagree, readsFiller_agree e h, hout⟩

/-- Settles O53: along a trace the states stay in agreement, so each visible output is the same. -/
theorem hiddenStateIsInvisible : Obligations.HiddenStateIsInvisible := by
  unfold Obligations.HiddenStateIsInvisible
  intro es
  induction es with
  | nil => exact fun _ _ _ => rfl
  | cons e rest ih =>
    intro s t h
    obtain ⟨hagree, hout⟩ := applyEvent_agree e h
    rw [runVisible, runVisible, ih _ _ hagree, ← readsFiller_agree e h]
    cases hfiller : readsFiller e s with
    | true => rfl
    | false => rw [hout hfiller]

end Sys2Proof.Machine

/-! PROOF. The words of the table: decoding an event word or a command word gives back what was encoded (R71, R73, R77,
R85). -/

namespace Sys2Proof

/-! ## Event words -/

theorem connectWord_fields (address : BitVec 7) (writeIntent : Bool) :
    eventKind (connectWord address writeIntent) = 0#2 ∧ eventAddress (connectWord address writeIntent) = address ∧
      eventIntent (connectWord address writeIntent) = writeIntent := by
  refine ⟨?_, ?_, ?_⟩
  · exact (BitVec.extractLsb'_append_eq_of_le (by decide)).trans BitVec.extractLsb'_append_eq_left
  · exact (BitVec.extractLsb'_append_eq_of_le (by decide)).trans BitVec.extractLsb'_append_eq_right
  · exact BitVec.getLsbD_append.trans (by simp)

theorem writeWord_fields (data : Byte) : eventKind (writeWord data) = 2#2 ∧ eventArg (writeWord data) = data :=
  ⟨BitVec.extractLsb'_append_eq_left, BitVec.extractLsb'_append_eq_right⟩

/-- An event word is put together again from its kind and its argument byte. -/
theorem kind_append_arg (w : EventWord) : (eventKind w ++ eventArg w : EventWord) = w :=
  (BitVec.extractLsb'_append_extractLsb'_eq_extractLsb' rfl).trans BitVec.extractLsb'_eq_self

/-- The argument byte of a CONNECT is its address above its direction bit. -/
theorem address_append_intent (w : EventWord) :
    (eventAddress w ++ BitVec.ofBool (eventIntent w) : Byte) = eventArg w := by
  have hbit : BitVec.ofBool (eventIntent w) = w.extractLsb' 0 1 := by
    refine BitVec.eq_of_getLsbD_eq fun i hi => ?_
    obtain rfl : i = 0 := by omega
    simp [eventIntent]
  rw [hbit]
  exact BitVec.extractLsb'_append_extractLsb'_eq_extractLsb' rfl

/-- The four kinds of event word (R71). -/
theorem decodeEvent_cases (w : EventWord) :
    (eventKind w = 0#2 ∧ decodeEvent w = .connect (eventAddress w).toNat (eventIntent w)) ∨
    (eventKind w = 1#2 ∧ decodeEvent w = .readByte) ∨
    (eventKind w = 2#2 ∧ decodeEvent w = .writeByte (eventArg w)) ∨
    (eventKind w = 3#2 ∧ decodeEvent w = .disconnect) := by
  have hkinds : ∀ k : BitVec 2, k = 0#2 ∨ k = 1#2 ∨ k = 2#2 ∨ k = 3#2 := by decide
  unfold decodeEvent
  obtain h | h | h | h := hkinds (eventKind w) <;> simp [h]

/-- Every event that an event word decodes to has an address of seven bits. -/
theorem decodeEvent_wellFormed (w : EventWord) : (decodeEvent w).wellFormed = true := by
  obtain ⟨-, h⟩ | ⟨-, h⟩ | ⟨-, h⟩ | ⟨-, h⟩ := decodeEvent_cases w <;> rw [h]
  · exact decide_eq_true (eventAddress w).isLt
  all_goals rfl

/-- Decoding the word of an event gives the event back, where its address has seven bits. -/
theorem decodeEvent_encodeEvent {e : Event} (he : e.wellFormed = true) : decodeEvent (encodeEvent e) = e := by
  cases e with
  | connect address writeIntent =>
    have hbits : address < 2 ^ 7 := of_decide_eq_true he
    obtain ⟨hkind, haddress, hintent⟩ := connectWord_fields (BitVec.ofNat 7 address) writeIntent
    have hnat : (BitVec.ofNat 7 address).toNat = address := Nat.mod_eq_of_lt hbits
    simp only [encodeEvent, decodeEvent, hkind, haddress, hintent, hnat, if_true]
  | readByte => decide
  | writeByte data =>
    obtain ⟨hkind, harg⟩ := writeWord_fields data
    simp [encodeEvent, decodeEvent, hkind, harg]
  | disconnect => decide

/-- Encoding the event of a word gives the word back, but for the ignored bits of READ_BYTE and DISCONNECT (R71). -/
theorem encodeEvent_decodeEvent (w : EventWord) :
    encodeEvent (decodeEvent w) = w ∨ decodeEvent w = .readByte ∨ decodeEvent w = .disconnect := by
  obtain ⟨hkind, h⟩ | ⟨-, h⟩ | ⟨hkind, h⟩ | ⟨-, h⟩ := decodeEvent_cases w
  · refine .inl ?_
    have happend : connectWord (eventAddress w) (eventIntent w) =
        0#2 ++ (eventAddress w ++ BitVec.ofBool (eventIntent w) : Byte) := BitVec.append_assoc
    rw [h, encodeEvent, BitVec.ofNat_toNat, BitVec.setWidth_eq, happend, address_append_intent, ← hkind]
    exact kind_append_arg w
  · exact .inr (.inl h)
  · refine .inl ?_
    rw [h, encodeEvent, writeWord, ← hkind]
    exact kind_append_arg w
  · exact .inr (.inr h)

theorem encode_event (e : Event) : encode e.toInstr = ⟨16, (encodeEvent e).toNat⟩ := by cases e <;> rfl

/-- The table's word of an event word decodes as the event word does. -/
theorem decode_eventWord (w : EventWord) : decode ⟨16, w.toNat⟩ = .ok (decodeEvent w).toInstr := by
  rw [decode_event w.isLt, BitVec.ofNat_toNat, BitVec.setWidth_eq]

theorem decode_encode_event {e : Event} (he : e.wellFormed = true) : decode (encode e.toInstr) = .ok e.toInstr := by
  rw [encode_event, decode_eventWord, decodeEvent_encodeEvent he]

/-! ## Command words -/

theorem decode_word24 (w : CommandWord) : decode ⟨24, w.toNat⟩ = .ok (decodeCommand3 w).toInstr := by
  rw [decode_command3 w.isLt, BitVec.ofNat_toNat, BitVec.setWidth_eq]

/-- Three command bytes decode to what the decoder finds in them (R73, R120). -/
theorem decode_commandWord3 (b0 b1 b2 : Byte) :
    decode (commandWord3 b0 b1 b2) = .ok (decodeCommand 3 b2 #v[b0, b1, b2]).toInstr := by
  obtain ⟨h0, h1, h2⟩ := commandByte_append b0 b1 b2
  rw [commandWord3, decode_word24]
  simp only [decodeCommand3, commandBytes, h0, h1, h2]

/-- A three-byte word is unrecognised where it is neither INIT nor TRIGGER (R77). -/
theorem unrecognized_wellFormed_iff (b0 b1 b2 : Byte) :
    (Instr.unrecognized b0 b1 b2).wellFormed = true ↔
      b0 ≠ Config.cmdInit ∧
        ¬(b0 = Config.cmdTrigger0 ∧ b1 = Config.cmdTrigger1 ∧ b2 = Config.cmdTrigger2) := by
  simp only [Instr.wellFormed, Bool.and_eq_true, bne_iff_ne, Bool.not_eq_true', ← Bool.not_eq_true, beq_iff_eq,
    and_assoc, ne_eq]

/-- What the decoder finds in a three-byte word is well-formed and has that word (R77). -/
theorem encode_decodeCommand3 (w : CommandWord) :
    (decodeCommand3 w).toInstr.wellFormed = true ∧ encode (decodeCommand3 w).toInstr = ⟨24, w.toNat⟩ := by
  have hword : commandWord3 (commandByte w 0) (commandByte w 1) (commandByte w 2) = ⟨24, w.toNat⟩ := by
    rw [commandWord3, commandByte_join]
  rw [← hword, decodeCommand3, commandBytes, Machine.decodeCommand_three_bytes]
  split
  · rename_i hinit
    rw [hinit]
    exact ⟨rfl, rfl⟩
  · rename_i hinit
    split
    · rename_i htrigger
      obtain ⟨h0, h1, h2⟩ := htrigger
      rw [h0, h1, h2]
      exact ⟨rfl, rfl⟩
    · rename_i htrigger
      exact ⟨(unrecognized_wellFormed_iff _ _ _).mpr ⟨hinit, htrigger⟩, rfl⟩

/-- Settles O44: the four events by their event words, the commands by what the decoder finds in their bytes. -/
theorem decodeOfEncode : Obligations.DecodeOfEncode := by
  unfold Obligations.DecodeOfEncode
  intro i hi
  cases i with
  | connect address writeIntent => exact decode_encode_event (e := .connect address writeIntent) hi
  | readByte => exact decode_encode_event (e := .readByte) hi
  | writeByte data => exact decode_encode_event (e := .writeByte data) hi
  | disconnect => exact decode_encode_event (e := .disconnect) hi
  | softReset => rfl
  | init x y =>
    rw [encode, decode_commandWord3, Machine.decodeCommand_three_bytes, if_pos rfl]
    rfl
  | trigger =>
    rw [encode, decode_commandWord3, Machine.decodeCommand_three_bytes, if_neg (by decide), if_pos ⟨rfl, rfl, rfl⟩]
    rfl
  | unrecognized b0 b1 b2 =>
    obtain ⟨hinit, htrigger⟩ := (unrecognized_wellFormed_iff b0 b1 b2).mp hi
    rw [encode, decode_commandWord3, Machine.decodeCommand_three_bytes, if_neg hinit, if_neg htrigger]
    rfl
  | wait => rfl

/-- Settles O45: the word's three bytes are one command, and put together again they are the word. -/
theorem threeByteWordsAreOneToOne : Obligations.ThreeByteWordsAreOneToOne := by
  unfold Obligations.ThreeByteWordsAreOneToOne
  intro w hw
  obtain ⟨hwf, hencode⟩ := encode_decodeCommand3 (BitVec.ofNat 24 w)
  have hnat : (BitVec.ofNat 24 w).toNat = w := Nat.mod_eq_of_lt hw
  exact ⟨_, decode_command3 hw, hwf, by rw [hencode, hnat]⟩

/-- Settles O46: the words of the four kinds. -/
theorem everyEventWordIsOneEvent : Obligations.EveryEventWordIsOneEvent := by
  unfold Obligations.EveryEventWordIsOneEvent
  intro w
  refine ⟨decode_eventWord w, decodeEvent_wellFormed w, (encodeEvent_decodeEvent w).imp_left fun h => ?_⟩
  rw [encode_event, h]

/-- Settles O47: ten closed words, decoded. -/
theorem wordsOfTheSpecDecode : Obligations.WordsOfTheSpecDecode := by
  unfold Obligations.WordsOfTheSpecDecode
  decide

end Sys2Proof

/-! PROOF. The two other forms of the checksum, its residue, and the errors it sees (R160 to R165). -/

namespace Sys2Proof.Machine

/-! ## The table form -/

/-- The printed table holds the eight bit steps of every byte. -/
theorem crcTableEntry_eq : ∀ v : Byte, crcTableEntry v = crcBitSteps 8 v := by decide +kernel

/-- Settles O22: the two folds take the same step. -/
theorem crcByTableIsCrc : Obligations.CrcByTableIsCrc := by
  unfold Obligations.CrcByTableIsCrc
  intro bytes
  have hstep : (fun acc b => crcTableEntry (acc ^^^ b)) = crcByteStep :=
    funext fun acc => funext fun b => crcTableEntry_eq (acc ^^^ b)
  rw [crc8ByTable, crc8, hstep]

/-! ## The bit-serial form -/

/-- A bit step on an accumulator that has taken its byte in whole is a serial step on the top bit of the byte, with the
rest of the byte still to come. -/
theorem crcBitStep_xor (acc b : Byte) :
    crcBitStep (acc ^^^ b) = crcSerialStep acc (b.getLsbD 7) ^^^ (b <<< 1) := by
  unfold crcBitStep crcSerialStep
  rw [BitVec.getLsbD_xor, BitVec.shiftLeft_xor_distrib]
  split
  · rw [BitVec.xor_assoc, BitVec.xor_assoc, BitVec.xor_comm (b <<< 1)]
  · rw [BitVec.xor_zero]

/-- The top `n` bits of a byte, most significant first. -/
def topBits (n : Nat) (b : Byte) : List Bool :=
  match n with
  | 0 => []
  | k + 1 => b.getLsbD 7 :: topBits k (b <<< 1)

theorem topBits_eight (b : Byte) : topBits 8 b = bitsMsbFirst b := by
  simp [topBits, bitsMsbFirst]

/-- After `n` steps the two forms differ by the bits still to come. -/
theorem crcBitSteps_xor (n : Nat) (acc b : Byte) :
    crcBitSteps n (acc ^^^ b) = (topBits n b).foldl crcSerialStep acc ^^^ (b <<< n) := by
  induction n generalizing acc b with
  | zero => simp [crcBitSteps, topBits]
  | succ k ih =>
    rw [crcBitSteps, crcBitStep_xor, ih, topBits, List.foldl_cons, ← BitVec.shiftLeft_add, Nat.add_comm 1 k]

/-- After eight steps none are. -/
theorem crcByteStep_eq_serial (acc b : Byte) : crcByteStep acc b = (bitsMsbFirst b).foldl crcSerialStep acc := by
  rw [crcByteStep, crcBitSteps_xor, topBits_eight, BitVec.shiftLeft_eq_zero (le_refl 8), BitVec.xor_zero]

/-- Settles O23: byte by byte, the serial register takes the byte step. -/
theorem crcBySerialIsCrc : Obligations.CrcBySerialIsCrc := by
  unfold Obligations.CrcBySerialIsCrc
  intro bytes
  rw [crc8BySerial, crc8, List.foldl_flatMap]
  exact List.foldl_ext _ _ _ fun acc b _ => (crcByteStep_eq_serial acc b).symm

/-! ## The residue and single errors -/

/-- Settles O24: the last byte cancels the accumulator, and zero stays zero. -/
theorem crcResidueIsZero : Obligations.CrcResidueIsZero := by
  unfold Obligations.CrcResidueIsZero
  intro bytes
  have hcancel : ∀ acc : Byte, crcByteStep acc acc = 0#8 := fun acc => by
    rw [crcByteStep, BitVec.xor_self]
    decide
  rw [crc8, List.foldl_append]
  exact hcancel _

/-- The shift leaves bit 0 clear, so bit 0 after a step is bit 7 before it, and bit `i + 1` is bit `i` but for the
polynomial's. -/
theorem crcBitStep_getLsbD (acc : Byte) (i : Nat) (hi : i < 8) :
    (crcBitStep acc).getLsbD i =
      ((decide (i ≠ 0) && acc.getLsbD (i - 1)) ^^ (acc.getLsbD 7 && Config.crcPoly.getLsbD i)) := by
  have hshift : (acc <<< 1).getLsbD i = (decide (i ≠ 0) && acc.getLsbD (i - 1)) := by
    rw [BitVec.getLsbD_shiftLeft]
    cases i <;> simp [hi]
  unfold crcBitStep
  cases htop : acc.getLsbD 7 with
  | true => rw [if_pos rfl, BitVec.getLsbD_xor, hshift, Bool.true_and]
  | false => rw [if_neg Bool.false_ne_true, hshift, Bool.false_and, Bool.xor_false]

theorem crcBitStep_injective : Function.Injective crcBitStep := by
  intro a b h
  have hbits : ∀ i < 8, (crcBitStep a).getLsbD i = (crcBitStep b).getLsbD i := fun i _ => by rw [h]
  have htop : a.getLsbD 7 = b.getLsbD 7 := by
    have hzero := hbits 0 (by decide)
    have hodd : Config.crcPoly.getLsbD 0 = true := by decide
    rw [crcBitStep_getLsbD a 0 (by decide), crcBitStep_getLsbD b 0 (by decide), hodd] at hzero
    simpa using hzero
  refine BitVec.eq_of_getLsbD_eq fun i hi => ?_
  obtain hlast | hlow : i = 7 ∨ i + 1 < 8 := by omega
  · rw [hlast]
    exact htop
  · have hnext := hbits (i + 1) hlow
    rw [crcBitStep_getLsbD a _ hlow, crcBitStep_getLsbD b _ hlow, htop] at hnext
    simpa using hnext

theorem crcBitSteps_injective (n : Nat) : Function.Injective (crcBitSteps n) := by
  induction n with
  | zero => exact fun a b h => h
  | succ k ih => exact fun a b h => crcBitStep_injective (ih h)

theorem crcByteStep_right_injective (acc : Byte) : Function.Injective (crcByteStep acc) := fun _ _ h =>
  (BitVec.xor_right_inj _).mp (crcBitSteps_injective 8 h)

theorem crcByteStep_left_injective (b : Byte) : Function.Injective (crcByteStep · b) := fun _ _ h =>
  (BitVec.xor_left_inj _).mp (crcBitSteps_injective 8 h)

/-- Equal bytes never bring two different accumulators together. -/
theorem foldl_crcByteStep_injective (bytes : List Byte) : Function.Injective fun acc => bytes.foldl crcByteStep acc := by
  induction bytes with
  | nil => exact fun a b h => h
  | cons byte rest ih => exact fun a b h => crcByteStep_left_injective byte (ih h)

/-- Settles O25: the bytes after the position cannot undo a difference, and neither can the byte step at it. -/
theorem crcSeesOneByteError : Obligations.CrcSeesOneByteError := by
  unfold Obligations.CrcSeesOneByteError
  intro before after b c h
  rw [crc8, crc8, List.foldl_append, List.foldl_append, List.foldl_cons, List.foldl_cons] at h
  exact crcByteStep_right_injective _ (foldl_crcByteStep_injective after h)

end Sys2Proof.Machine

/-! PROOF. The raw values as numbers, and the sensed values a controller recovers from them (R83, R141 to R144). -/

namespace Sys2Proof.Machine

/-- Settles O17: bit by bit, the reassembled value takes each bit from the byte that holds it. -/
theorem frameUnpacksToRawValues : Obligations.FrameUnpacksToRawValues := by
  unfold Obligations.FrameUnpacksToRawValues
  intro d0 h t
  obtain ⟨-, h1, h2, h3, h4, h5, -⟩ := frameOf_bytes d0 h t
  constructor
  · refine BitVec.eq_of_getLsbD_eq fun i hi => ?_
    rw [unpackHumidity_getLsbD, h1, h2, h3, humidityHigh_getLsbD, humidityMid_getLsbD, sharedNibbles_getLsbD]
    interval_cases i <;> simp
  · refine BitVec.eq_of_getLsbD_eq fun i hi => ?_
    rw [unpackTemperature_getLsbD, h3, h4, h5, sharedNibbles_getLsbD, temperatureMid_getLsbD, temperatureLow_getLsbD]
    interval_cases i <;> simp

/-! ## Rounding -/

/-- The rounded value is the integer within half a unit, a tie going up (R144). -/
theorem roundHalfUp_bounds (q : Rat) : (roundHalfUp q : Rat) - 1 / 2 ≤ q ∧ q < (roundHalfUp q : Rat) + 1 / 2 := by
  have hle : (roundHalfUp q : Rat) ≤ q + 1 / 2 := Int.floor_le (q + 1 / 2)
  have hlt : q + 1 / 2 < (roundHalfUp q : Rat) + 1 := Int.lt_floor_add_one (q + 1 / 2)
  constructor <;> linarith

/-- Bounds on the quotient that are half a unit inside two integers bound the rounded value by them. -/
theorem roundHalfUp_mem {q : Rat} {low high : Int} (hlow : (low : Rat) - 1 / 2 ≤ q) (hhigh : q < (high : Rat) + 1 / 2) :
    low ≤ roundHalfUp q ∧ roundHalfUp q ≤ high := by
  obtain ⟨hle, hlt⟩ := roundHalfUp_bounds q
  constructor
  · exact Int.lt_add_one_iff.mp (by exact_mod_cast show (low : Rat) < roundHalfUp q + 1 by linarith)
  · exact Int.lt_add_one_iff.mp (by exact_mod_cast show (roundHalfUp q : Rat) < high + 1 by linarith)

/-- A number of 20 bits keeps its value in a raw value. -/
theorem toNat_ofInt_raw {z : Int} (hlow : 0 ≤ z) (hhigh : z < 2 ^ 20) : ((BitVec.ofInt 20 z).toNat : Int) = z := by
  rw [BitVec.toNat_ofInt, Int.toNat_of_nonneg (Int.emod_nonneg z (by decide))]
  exact Int.emod_eq_of_lt hlow hhigh

theorem roundedHumidity_range (h : Humidity) :
    629146 ≤ roundHalfUp (humidityQuotient h) ∧ roundHalfUp (humidityQuotient h) ≤ 796918 := by
  obtain ⟨hlow, hhigh⟩ := h.inRange
  refine roundHalfUp_mem ?_ ?_ <;> unfold humidityQuotient <;> push_cast <;> linarith

theorem roundedTemperature_range (t : Temperature) :
    356516 ≤ roundHalfUp (temperatureQuotient t) ∧ roundHalfUp (temperatureQuotient t) ≤ 398459 := by
  obtain ⟨hlow, hhigh⟩ := t.inRange
  refine roundHalfUp_mem ?_ ?_ <;> unfold temperatureQuotient <;> push_cast <;> linarith

/-- The 20 bits of `RAW_H` hold the rounded quotient. -/
theorem rawHumidity_toNat (h : Humidity) : ((rawHumidity h).toNat : Int) = roundHalfUp (humidityQuotient h) := by
  obtain ⟨hlow, hhigh⟩ := roundedHumidity_range h
  exact toNat_ofInt_raw (by omega) (by omega)

theorem rawTemperature_toNat (t : Temperature) :
    ((rawTemperature t).toNat : Int) = roundHalfUp (temperatureQuotient t) := by
  obtain ⟨hlow, hhigh⟩ := roundedTemperature_range t
  exact toNat_ofInt_raw (by omega) (by omega)

/-- Settles O18: the ranges of the quotients, rounded. -/
theorem rawValuesInRange : Obligations.RawValuesInRange := by
  unfold Obligations.RawValuesInRange
  constructor
  · intro h
    have hrange := roundedHumidity_range h
    have hraw := rawHumidity_toNat h
    omega
  · intro t
    have hrange := roundedTemperature_range t
    have hraw := rawTemperature_toNat t
    omega

/-- Settles O19: the raw value is the rounded quotient, read as a rational. -/
theorem rawValuesAreNearest : Obligations.RawValuesAreNearest := by
  unfold Obligations.RawValuesAreNearest
  constructor
  · intro h
    have hraw : ((rawHumidity h).toNat : Rat) = roundHalfUp (humidityQuotient h) := by
      exact_mod_cast congrArg (Int.cast (R := Rat)) (rawHumidity_toNat h)
    rw [hraw]
    exact roundHalfUp_bounds (humidityQuotient h)
  · intro t
    have hraw : ((rawTemperature t).toNat : Rat) = roundHalfUp (temperatureQuotient t) := by
      exact_mod_cast congrArg (Int.cast (R := Rat)) (rawTemperature_toNat t)
    rw [hraw]
    exact roundHalfUp_bounds (temperatureQuotient t)

/-- Settles O20: the conversion back scales the half unit of rounding. -/
theorem sensedValuesRecovered : Obligations.SensedValuesRecovered := by
  unfold Obligations.SensedValuesRecovered
  obtain ⟨hhum, htemp⟩ := rawValuesAreNearest
  constructor
  · intro h
    obtain ⟨hlow, hhigh⟩ := hhum h
    rw [percentOfRaw, abs_le]
    constructor <;> linarith
  · intro t
    obtain ⟨hlow, hhigh⟩ := htemp t
    rw [celsiusOfRaw, abs_le]
    constructor <;> linarith

end Sys2Proof.Machine

/-! PROOF. The ports, the inbox and the placing of table words: what the next step runs (R5, R6, R13, R60, R71, R73 to
R75). -/

namespace Sys2Proof.Machine

/-! ## One sample of the ports -/

/-- A word driven onto the ports is sampled as the canonical word of its event (R6, R71). -/
theorem samplePorts_portsOfWord (w : EventWord) :
    samplePorts (portsOfWord w) = .event (encodeEvent (decodeEvent w)) := by
  obtain ⟨hkind, h⟩ | ⟨hkind, h⟩ | ⟨hkind, h⟩ | ⟨hkind, h⟩ := decodeEvent_cases w <;>
    simp [samplePorts, portsOfWord, hkind, h, encodeEvent]

/-- Settles O41: the event's word is canonical, so the sample of it is the word itself. -/
theorem portsCarryTheEvent : Obligations.PortsCarryTheEvent := by
  unfold Obligations.PortsCarryTheEvent
  intro e he
  have hdecode : decodeEvent (encodeEvent e) = e := decodeEvent_encodeEvent he
  refine ⟨?_, hdecode⟩
  rw [portsOfEvent, samplePorts_portsOfWord, hdecode]

/-- A sample is refused exactly where at least two of its four strobes are asserted: the truth table of the strobes (R60,
D22). -/
theorem samplePorts_eq_overlap_iff (p : Ports) :
    samplePorts p = .overlap ↔
      2 ≤ p.evConnect.toNat + p.evRead.toNat + p.evWrite.toNat + p.evDisconnect.toNat := by
  obtain ⟨evConnect, evRead, evWrite, evDisconnect, address, writeIntent, data⟩ := p
  cases evConnect <;> cases evRead <;> cases evWrite <;> cases evDisconnect <;> simp [samplePorts]

/-- Settles O39: the three ways a step does not stop. -/
theorem stepRunsTheDecodedEvent : Obligations.StepRunsTheDecodedEvent := by
  unfold Obligations.StepRunsTheDecodedEvent
  refine ⟨fun s p rest w hb hp => ⟨decodeEvent_wellFormed w, ?_⟩, fun s p rest hb hp => ?_, fun s hb => ?_⟩
  · simp only [step, hb, hp]
    rfl
  · simp only [step, hb, hp]
    rfl
  · have hidle : step s = .next (idleStep s) := by simp only [step, hb]
    exact hidle

/-- Settles O40: of the four ways a step goes only the refusal has no next state, and it is the sample's overlap. -/
theorem stepStopsOnlyOnOverlap : Obligations.StepStopsOnlyOnOverlap := by
  unfold Obligations.StepStopsOnlyOnOverlap
  intro s
  simp only [← samplePorts_eq_overlap_iff]
  obtain ⟨hb, h⟩ | ⟨p, rest, hb, hp, h⟩ | ⟨p, rest, w, hb, hp, h⟩ | ⟨p, rest, hb, hp, h⟩ := step_cases s
  · simp [hb, h]
  · simp [hb, hp, h]
  · simp [hb, hp, h]
  · simp [hb, hp, h]

/-! ## A trace of samples -/

/-- No command and no event reads the pending samples. -/
theorem runCommand_setInbox (c : Command) (pending : List Ports) (s : State) :
    runCommand c (setInbox pending s) = setInbox pending (runCommand c s) := by
  cases c with
  | trigger =>
    show triggerMeasurement (setInbox pending s) = setInbox pending (triggerMeasurement s)
    rw [triggerMeasurement_eq, triggerMeasurement_eq]
    rfl
  | softReset | init | unrecognized | wait => rfl

theorem onReadByte_setInbox (pending : List Ports) (s : State) :
    onReadByte (setInbox pending s) = setInbox pending (onReadByte s) := by
  obtain ⟨hm, h⟩ | ⟨i, hm, hi, h⟩ | ⟨hm, h7, -⟩ := onReadByte_cases s
  · rw [h]
    exact onReadByte_idle (s := setInbox pending s) hm
  · rw [h]
    exact onReadByte_frame (s := setInbox pending s) hm hi
  · rw [onReadByte_end hm h7]
    exact onReadByte_end (s := setInbox pending s) hm h7

theorem onWriteByte_setInbox (data : Byte) (pending : List Ports) (s : State) :
    onWriteByte data (setInbox pending s) = setInbox pending (onWriteByte data s) := by
  obtain ⟨i, -, hi, h⟩ | ⟨-, h3, h⟩ := onWriteByte_cases data s
  · rw [h, onWriteByte_store (s := setInbox pending s) data hi]
    exact congrArg (setOutput (.ack true)) (runCommand_setInbox _ pending (storeByte i data s))
  · rw [h]
    exact onWriteByte_full (s := setInbox pending s) data h3

theorem applyEvent_setInbox (e : Event) (pending : List Ports) (s : State) :
    applyEvent e (setInbox pending s) = setInbox pending (applyEvent e s) := by
  cases e with
  | connect address writeIntent => rw [applyEvent_connect, applyEvent_connect, onConnect_eq, onConnect_eq]; rfl
  | readByte => exact onReadByte_setInbox pending s
  | writeByte data => exact onWriteByte_setInbox data pending s
  | disconnect => rfl

/-- A step with the sample of an event first in the inbox takes it and applies the event. -/
theorem step_portsOfEvent {e : Event} (he : e.wellFormed = true) (rest : List Ports) (s : State) :
    step (setInbox (portsOfEvent e :: rest) s) = .next (setInbox rest (applyEvent e s)) := by
  obtain ⟨hsample, hdecode⟩ := portsCarryTheEvent e he
  have hstep : step (setInbox (portsOfEvent e :: rest) s) = exec e.toInstr (setInbox rest s) := by
    simp only [step, setInbox_inbox, hsample, hdecode, setInbox_setInbox]
  rw [hstep, exec_event, applyEvent_setInbox]

/-- A run of one step more goes on from what the step answers. -/
theorem run_of_step (M : Host.Core) {s t : M.State} (n : Nat) (h : M.step s = .next t) :
    M.run (n + 1) s = M.run n t := by
  simp only [Host.Core.run, h]

/-- As many steps as there are samples run the trace and empty the inbox. -/
theorem run_inbox {es : List Event} (hes : ∀ e ∈ es, e.wellFormed = true) (s : State) :
    Sys2Proof.core.run es.length (setInbox (es.map portsOfEvent) s) = .next (setInbox [] (runState es s)) := by
  induction es generalizing s with
  | nil => rfl
  | cons e rest ih =>
    obtain ⟨he, hrest⟩ := List.forall_mem_cons.mp hes
    have hstep : Sys2Proof.core.step (setInbox (portsOfEvent e :: rest.map portsOfEvent) s) =
        .next (setInbox (rest.map portsOfEvent) (applyEvent e s)) := step_portsOfEvent he _ s
    rw [List.length_cons, List.map_cons, run_of_step Sys2Proof.core _ hstep]
    exact ih hrest (applyEvent e s)

theorem runState_setInbox (es : List Event) (pending : List Ports) (s : State) :
    runState es (setInbox pending s) = setInbox pending (runState es s) := by
  induction es generalizing s with
  | nil => rfl
  | cons e rest ih =>
    rw [runState, runState, applyEvent_setInbox]
    exact ih (applyEvent e s)

/-- Settles O42: the inbox is empty before the samples are placed and after they are taken. -/
theorem stepsOfTheInboxAreTheTrace : Obligations.StepsOfTheInboxAreTheTrace := by
  unfold Obligations.StepsOfTheInboxAreTheTrace
  intro es s hes hempty
  have hs : setInbox [] s = s := by rw [← hempty, setInbox_self]
  have hrun := run_inbox hes s
  rw [← runState_setInbox, hs] at hrun
  exact hrun

/-! ## A table word placed -/

theorem decodeTableWord_eq_some {nbits w : Nat} {i : Instr} :
    decodeTableWord nbits w = some i ↔ decode ⟨nbits, w⟩ = .ok i := by
  unfold decodeTableWord
  cases decode ⟨nbits, w⟩ <;> simp [Except.toOption]

/-- A delivered event word is the event of the next step (log 1). -/
theorem step_deliverWord (w : EventWord) (s : State) :
    step (deliverWord w s) = exec (decodeEvent w).toInstr s := by
  have hcanonical : decodeEvent (encodeEvent (decodeEvent w)) = decodeEvent w :=
    decodeEvent_encodeEvent (decodeEvent_wellFormed w)
  simp only [step, deliverWord, setInbox_inbox, samplePorts_portsOfWord, hcanonical, setInbox_setInbox, setInbox_self]

/-- A delivered command byte is the WRITE_BYTE of the next step, at the cursor given (log 9). -/
theorem step_deliverCommandByte (cursor : Fin 4) (data : Byte) (s : State) :
    step (deliverCommandByte cursor data s) = exec (.writeByte data) (setWriteIndex cursor s) := by
  have hevent : decodeEvent (writeWord data) = .writeByte data :=
    decodeEvent_encodeEvent (e := .writeByte data) rfl
  rw [deliverCommandByte, step_deliverWord, hevent]
  rfl

/-- What `withFetchWord` places, format by format, for a word that decodes (log 9, log 10). -/
theorem withFetchWord_of_decodes {nbits w : Nat} {i : Instr} (h : decode ⟨nbits, w⟩ = .ok i) (s : State) :
    s.withFetchWord nbits w =
      if nbits = 8 then deliverCommandByte 0 (BitVec.ofNat 8 w) s
      else if nbits = 24 then
        deliverCommandByte 2 (commandByte (BitVec.ofNat 24 w) 2)
          (memWrite 1 (commandByte (BitVec.ofNat 24 w) 1) (memWrite 0 (commandByte (BitVec.ofNat 24 w) 0) s))
      else if nbits = 0 then deliverCommandByte 0 0#8 s
      else deliverWord (BitVec.ofNat 10 w) s := by
  simp only [State.withFetchWord, placeTableWord, h]

/-- Each format of `decode` answers its instruction or that the word is too wide. -/
theorem eq_of_if_ok {p : Prop} [Decidable p] {a i : Instr} {error : DecodeError}
    (h : (if p then Except.ok a else .error error) = .ok i) : a = i := by
  split at h
  · exact Except.ok.inj h
  · nomatch h

/-- A word of ten bits, padded or not, runs its event as it stands. -/
theorem step_eventWord {nbits w : Nat} {i : Instr} (hbits : nbits = 16 ∨ nbits = 10)
    (h : decode ⟨nbits, w⟩ = .ok i) (s : State) : step (s.withFetchWord nbits w) = exec i s := by
  have hword : (decodeEvent (BitVec.ofNat 10 w)).toInstr = i := by
    rw [decode, if_pos hbits] at h
    exact eq_of_if_ok h
  rw [withFetchWord_of_decodes h, if_neg (by omega), if_neg (by omega), if_neg (by omega), step_deliverWord, hword]

/-- The WRITE_BYTE that completes a command answers what the command gives on the stored byte, with `ack = 1` (R102,
R126). -/
theorem exec_writeByte_completing {k : Fin 3} {data : Byte} {s : State} {c : Command}
    (hk : s.writeIndex = k.castSucc) (hc : decodedCommand k data s = c) :
    ∃ t, exec c.toInstr (storeByte k data s) = .next t ∧
      exec (.writeByte data) s = .next { t with output := .ack true } := by
  have hexec : exec (.writeByte data) s = .next (onWriteByte data s) := exec_event (.writeByte data) s
  refine ⟨runCommand c (storeByte k data s), exec_command c _, ?_⟩
  rw [hexec, onWriteByte_store data hk, hc]
  rfl

/-- A one-byte word, and the first byte that shows WAIT, arrive at the first position of a command, where the decoder
looks at nothing but that byte (R74). -/
theorem exec_firstByte (data : Byte) (s : State) :
    ∃ t, exec (decodeCommand1 data).toInstr
        { s with writeBuffer := s.writeBuffer.set 0 data, writeIndex := 1 } = .next t ∧
      exec (.writeByte data) { s with writeIndex := 0 } = .next { t with output := .ack true } := by
  have hfound : decodedCommand 0 data (setWriteIndex 0 s) = decodeCommand1 data :=
    (decodeCommand_one data _).trans (decodeCommand_one data _).symm
  exact exec_writeByte_completing (k := 0) (s := setWriteIndex 0 s) rfl hfound

/-- A three-byte word arrives with its first two bytes stored, and the last one completes it (R73, R74). -/
theorem exec_thirdByte (w : CommandWord) (s : State) :
    ∃ t, exec (decodeCommand3 w).toInstr { s with writeBuffer := commandBytes w, writeIndex := 3 } = .next t ∧
      exec (.writeByte (commandByte w 2)) { s with
        writeBuffer := (s.writeBuffer.set 0 (commandByte w 0)).set 1 (commandByte w 1)
        writeIndex := 2 } = .next { t with output := .ack true } := by
  have hbytes : ((s.writeBuffer.set 0 (commandByte w 0)).set 1 (commandByte w 1)).set 2 (commandByte w 2) =
      commandBytes w := (commandBuffer_eq_iff _ _ _ _).mpr (by simp)
  have hcompletes := exec_writeByte_completing (k := 2) (data := commandByte w 2) (s := { s with
    writeBuffer := (s.writeBuffer.set 0 (commandByte w 0)).set 1 (commandByte w 1)
    writeIndex := 2 }) rfl (decodedCommand_eq _ _ _)
  simp only [storeByte, memWrite, setWriteBuffer, setWriteIndex, Fin.val_two, hbytes] at hcompletes
  exact hcompletes

/-- A word of eight bits is the command that its byte is at the first position (R74). -/
theorem step_oneByteWord {w : Nat} {i : Instr} (h : decode ⟨8, w⟩ = .ok i) (s : State) :
    step (s.withFetchWord 8 w) = exec (.writeByte (BitVec.ofNat 8 w)) { s with writeIndex := 0 } ∧
      i = (decodeCommand1 (BitVec.ofNat 8 w)).toInstr := by
  constructor
  · rw [withFetchWord_of_decodes h, if_pos rfl, step_deliverCommandByte]
    rfl
  · rw [decode, if_neg (by simp), if_pos rfl] at h
    exact (eq_of_if_ok h).symm

/-- A word of twenty-four bits is the command that its bytes are when the third is stored (R73, R74). -/
theorem step_threeByteWord {w : Nat} {i : Instr} (h : decode ⟨24, w⟩ = .ok i) (s : State) :
    step (s.withFetchWord 24 w) = exec (.writeByte (commandByte (BitVec.ofNat 24 w) 2)) { s with
        writeBuffer := (s.writeBuffer.set 0 (commandByte (BitVec.ofNat 24 w) 0)).set 1
          (commandByte (BitVec.ofNat 24 w) 1)
        writeIndex := 2 } ∧
      i = (decodeCommand3 (BitVec.ofNat 24 w)).toInstr := by
  constructor
  · rw [withFetchWord_of_decodes h, if_neg (by decide), if_pos rfl, step_deliverCommandByte]
    rfl
  · rw [decode, if_neg (by simp), if_neg (by simp), if_pos rfl] at h
    exact (eq_of_if_ok h).symm

/-- The empty word is WAIT, shown by a first byte 0x00 (log 9, log 10). -/
theorem step_emptyWord {w : Nat} {i : Instr} (h : decode ⟨0, w⟩ = .ok i) (s : State) :
    step (s.withFetchWord 0 w) = exec (.writeByte 0x00#8) { s with writeIndex := 0 } ∧
      i = (decodeCommand1 0x00#8).toInstr := by
  constructor
  · rw [withFetchWord_of_decodes h, if_neg (by decide), if_neg (by decide), if_pos rfl, step_deliverCommandByte]
    rfl
  · have hwait : decodeCommand1 0x00#8 = .wait := by decide
    rw [hwait]
    rw [decode, if_neg (by simp), if_neg (by simp), if_neg (by simp), if_pos rfl] at h
    exact (eq_of_if_ok h).symm

/-- Only the five lengths of the table decode (R85). -/
theorem nbits_of_decodes {nbits w : Nat} {i : Instr} (h : decode ⟨nbits, w⟩ = .ok i) :
    nbits = 16 ∨ nbits = 10 ∨ nbits = 8 ∨ nbits = 24 ∨ nbits = 0 := by
  by_contra hno
  simp only [not_or] at hno
  obtain ⟨h16, h10, h8, h24, h0⟩ := hno
  simp [decode, h16, h10, h8, h24, h0] at h

/-- Settles O43: for each length the state that `withFetchWord` leaves, and the command its byte completes there. -/
theorem tableWordRunsNext : Obligations.TableWordRunsNext := by
  unfold Obligations.TableWordRunsNext
  intro s w i
  simp only [decodeTableWord_eq_some]
  refine ⟨⟨fun h => step_eventWord (.inl rfl) h s, fun h => step_eventWord (.inr rfl) h s⟩, fun h => ?_, fun h => ?_,
    fun h => ?_, fun nbits => nbits_of_decodes⟩
  · obtain ⟨hstep, rfl⟩ := step_oneByteWord h s
    rw [hstep]
    exact ⟨rfl, exec_firstByte _ s⟩
  · obtain ⟨hstep, rfl⟩ := step_threeByteWord h s
    rw [hstep]
    exact ⟨rfl, exec_thirdByte _ s⟩
  · obtain ⟨hstep, rfl⟩ := step_emptyWord h s
    rw [hstep]
    exact ⟨rfl, exec_firstByte _ s⟩

end Sys2Proof.Machine

/-! PROOF. The hazards of R210 to R213, and a whole measurement from any state that a trace leaves (R203). -/

namespace Sys2Proof.Machine

theorem runOutputs_append (es es' : List Event) (s : State) :
    runOutputs (es ++ es') s = runOutputs es s ++ runOutputs es' (runState es s) := by
  induction es generalizing s with
  | nil => rfl
  | cons e rest ih => exact congrArg (_ :: ·) (ih (applyEvent e s))

/-! ## Written bytes -/

theorem runState_writes_readIndex (bytes : List Byte) (s : State) :
    (runState (bytes.map .writeByte) s).readIndex = s.readIndex := by
  induction bytes generalizing s with
  | nil => rfl
  | cons byte rest ih => exact (ih (onWriteByte byte s)).trans (onWriteByte_readIndex byte s)

/-- Under the invariant every byte of a row is acknowledged, because each leaves the invariant for the next. -/
theorem runOutputs_writes (bytes : List Byte) {s : State} (hs : s.Inv) :
    runOutputs (bytes.map .writeByte) s = List.replicate bytes.length (.ack true) := by
  induction bytes generalizing s with
  | nil => rfl
  | cons byte rest ih =>
    have hnext : (onWriteByte byte s).Inv := applyEvent_keeps_inv (.writeByte byte) s hs
    rw [List.map_cons, runOutputs, applyEvent_writeByte, onWriteByte_acknowledges byte hs, ih hnext]
    rfl

/-- A byte 0xBA leaves nothing in flight, unless it comes as a second byte. -/
theorem onWriteByte_reset_writeIndex (s : State) :
    (onWriteByte 0xBA#8 s).writeIndex = 0 ∨ (s.writeIndex = 1 ∧ (onWriteByte 0xBA#8 s).writeIndex = 2) := by
  obtain h | ⟨-, hne, -⟩ | ⟨hold, h, -⟩ := onWriteByte_inFlight 0xBA#8 s
  · exact .inl h
  · exact absurd rfl hne
  · exact .inr ⟨hold, h⟩

/-- Two bytes 0xBA empty the command buffer of every state, an overrun one too. -/
theorem twoResets_writeIndex (s : State) : (onWriteByte 0xBA#8 (onWriteByte 0xBA#8 s)).writeIndex = 0 := by
  obtain h | ⟨hone, -⟩ := onWriteByte_reset_writeIndex (onWriteByte 0xBA#8 s)
  · exact h
  · obtain h | ⟨-, h⟩ := onWriteByte_reset_writeIndex s <;> exact absurd (hone.symm.trans h) (by decide)

/-- With nothing in flight, 0xBA is the command SOFT_RESET. -/
theorem onWriteByte_softReset {s : State} (hw : s.writeIndex = 0) :
    onWriteByte 0xBA#8 s = { s with
      writeBuffer := s.writeBuffer.set 0 0xBA#8
      initialized := false
      measuring := false
      status := 0x18#8
      writeIndex := 0
      output := .ack true } := by
  rw [onWriteByte_first _ hw, if_pos rfl]

/-- MEASURING with a second byte to come: 0xBA then is an operand, and the one after it the end of an unrecognised word. -/
def measuringMidCommand : State :=
  { State.reset with
    measuring := true
    readBuffer := frame (rawHumidity Config.humidity) (rawTemperature Config.temperature)
    writeIndex := 1 }

theorem measuringMidCommand_inv : measuringMidCommand.Inv where
  statusAtRest := rfl
  cursorBelowThree := show 1 < 3 by decide
  noResetInFlight := fun _ => show (Vector.replicate 3 0#8)[0] ≠ 0xBA#8 by decide
  frameReady := fun _ => rfl

/-- Settles O48: two bytes empty the command buffer, the third is a SOFT_RESET; and two do not reset the state above. -/
theorem resyncFromEveryState : Obligations.ResyncFromEveryState := by
  unfold Obligations.ResyncFromEveryState
  refine ⟨fun s => ?_, measuringMidCommand, measuringMidCommand_inv, rfl⟩
  have hlast : runState [.writeByte 0xBA#8, .writeByte 0xBA#8, .writeByte 0xBA#8] s = _ :=
    onWriteByte_softReset (twoResets_writeIndex s)
  have hcursor : (onWriteByte 0xBA#8 (onWriteByte 0xBA#8 s)).readIndex = s.readIndex :=
    runState_writes_readIndex [0xBA#8, 0xBA#8] s
  rw [hlast]
  exact ⟨rfl, rfl, rfl, rfl, hcursor⟩

/-! ## Bytes that wait -/

/-- A state with another command in flight, frame cursor and output: what a transaction of unrecognised bytes changes. -/
def withInFlight (s : State) (cursor : Fin 8) (buffer : Vector Byte 3) (count : Fin 4) (v : Output) : State :=
  { s with readIndex := cursor, writeBuffer := buffer, writeIndex := count, output := v }

theorem withInFlight_self {s : State} (hw : s.writeIndex = 0) :
    withInFlight s s.readIndex s.writeBuffer 0 s.output = s := by
  rw [← hw]
  rfl

theorem setOutput_withInFlight (s : State) (cursor : Fin 8) (buffer : Vector Byte 3) (count : Fin 4) (v w : Output) :
    setOutput w (withInFlight s cursor buffer count v) = withInFlight s cursor buffer count w := rfl

theorem onConnect_withInFlight (s : State) (cursor : Fin 8) (buffer : Vector Byte 3) (count : Fin 4) (v : Output) :
    onConnect 0x38 (withInFlight s cursor buffer count v) =
      withInFlight s (if s.measuring = true then 0 else cursor) buffer count (.ack true) := by
  rw [onConnect_eq]
  simp [withInFlight]

theorem onWriteByte_withInFlight_first {data : Byte} (hdata : data ≠ 0xBA#8) (s : State) (cursor : Fin 8)
    (buffer : Vector Byte 3) (v : Output) :
    onWriteByte data (withInFlight s cursor buffer 0 v) =
      withInFlight s cursor (buffer.set 0 data) 1 (.ack true) := by
  rw [onWriteByte_first _ rfl, if_neg hdata]
  rfl

theorem onWriteByte_withInFlight_second (data : Byte) (s : State) (cursor : Fin 8) (buffer : Vector Byte 3)
    (v : Output) :
    onWriteByte data (withInFlight s cursor buffer 1 v) =
      withInFlight s cursor (buffer.set 1 data) 2 (.ack true) := by
  rw [onWriteByte_second _ rfl]
  rfl

theorem onWriteByte_withInFlight_third {data : Byte} {buffer : Vector Byte 3} (hInit : buffer[0] ≠ 0xBE#8)
    (hTrigger : ¬(buffer[0] = 0x00#8 ∧ buffer[1] = 0xAC#8 ∧ data = 0x33#8)) (s : State) (cursor : Fin 8)
    (v : Output) :
    onWriteByte data (withInFlight s cursor buffer 2 v) =
      withInFlight s cursor (buffer.set 2 data) 0 (.ack true) := by
  have hthird := onWriteByte_third (s := withInFlight s cursor buffer 2 v) data rfl
  exact hthird.trans ((if_neg hInit).trans (if_neg hTrigger))

/-- With nothing in flight the three bytes of TRIGGER start a measurement. -/
theorem runState_triggerBytes {s : State} (hw : s.writeIndex = 0) :
    (runState [.writeByte 0x00#8, .writeByte 0xAC#8, .writeByte 0x33#8] s).measuring = true := by
  rw [← withInFlight_self hw]
  simp only [runState, applyEvent_writeByte, onWriteByte_withInFlight_second,
    onWriteByte_withInFlight_first (show 0x00#8 ≠ 0xBA#8 by decide)]
  rw [onWriteByte_third _ rfl, if_neg (by simp [withInFlight]), if_pos (by simp [withInFlight])]

/-! ## Reads of a frame -/

/-- A read at each of the remaining frame positions delivers the rest of the frame and ends at cursor 7 (R101). -/
theorem read_rest_of_frame (n : Nat) {s : State} (hm : s.measuring = true) (hn : s.readIndex.val + n = 7) :
    runOutputs (List.replicate n .readByte) s = (s.readBuffer.toList.drop s.readIndex.val).map .rdata ∧
      ∃ v, runState (List.replicate n .readByte) s = { s with output := v, readIndex := 7 } := by
  induction n generalizing s with
  | zero =>
    have hend : s.readIndex = 7 := Fin.ext hn
    have hall : s.readBuffer.toList.drop 7 = [] := List.drop_eq_nil_of_le (by simp)
    refine ⟨?_, s.output, ?_⟩
    · rw [show s.readIndex.val = 7 from hn, hall]
      rfl
    · rw [← hend]
      rfl
  | succ k ih =>
    have hlow : s.readIndex.val < 7 := by omega
    have hread := onReadByte_frame (i := ⟨s.readIndex.val, hlow⟩) hm rfl
    obtain ⟨hout, v, hstate⟩ := ih (s := onReadByte s) (by rw [hread]; exact hm)
      (by rw [hread]; show s.readIndex.val + 1 + k = 7; omega)
    rw [List.replicate_succ, runOutputs, runState, applyEvent_readByte, hout, hstate, hread]
    refine ⟨?_, v, rfl⟩
    rw [List.drop_eq_getElem_cons (i := s.readIndex.val) (by simpa using hlow)]
    simp

/-- A CONNECT to the block and seven reads deliver the whole frame and stay in MEASURING (R100, R212). -/
theorem read_whole_frame (writeIntent : Bool) {s : State} (hm : s.measuring = true) :
    runOutputs (.connect 0x38 writeIntent :: List.replicate 7 .readByte) s =
        .ack true :: s.readBuffer.toList.map .rdata ∧
      ∃ v, runState (.connect 0x38 writeIntent :: List.replicate 7 .readByte) s =
        { s with output := v, readIndex := 7 } := by
  have hconnect : onConnect 0x38 s = { s with output := .ack true, readIndex := 0 } := by
    rw [onConnect_eq]
    simp [hm]
  obtain ⟨hout, v, hstate⟩ := read_rest_of_frame 7 (s := onConnect 0x38 s) (by rw [hconnect]; exact hm)
    (by rw [hconnect]; rfl)
  rw [runOutputs, runState, applyEvent_connect, hout, hstate, hconnect]
  exact ⟨rfl, v, rfl⟩

/-- Settles O50: the seven reads leave the state as it was but for the cursor, so they repeat; the next read ends the
frame. -/
theorem sevenReadsDoNotEndMeasuring : Obligations.SevenReadsDoNotEndMeasuring := by
  unfold Obligations.SevenReadsDoNotEndMeasuring
  intro s hm
  obtain ⟨hout, v, hstate⟩ := read_whole_frame false hm
  have hend := onReadByte_end (s := { s with output := v, readIndex := 7 }) hm rfl
  have hagain := (read_whole_frame false (s := { s with output := v, readIndex := 7 }) hm).1
  simp only [hstate]
  refine ⟨hout, hm, rfl, hagain.trans hout.symm, ?_⟩
  refine ⟨congrArg State.measuring hend, congrArg State.readIndex hend, ?_⟩
  show (onReadByte (onReadByte _)).output = _
  rw [hend, onReadByte_idle rfl]

/-- Settles O51: SOFT_RESET and TRIGGER leave the frame cursor, and the new frame is that of the sensed values. -/
theorem staleFrameCursor : Obligations.StaleFrameCursor := by
  unfold Obligations.StaleFrameCursor
  intro s i hs hw _ hi
  have hempty : (onWriteByte 0xBA#8 s).writeIndex = 0 := by rw [onWriteByte_softReset (Fin.ext hw)]
  have hacks := runOutputs_writes [0xBA#8, 0x00#8, 0xAC#8, 0x33#8] hs
  have hcursor := runState_writes_readIndex [0xBA#8, 0x00#8, 0xAC#8, 0x33#8] s
  have hinv := runState_keeps applyEvent_keeps_inv ([0xBA#8, 0x00#8, 0xAC#8, 0x33#8].map .writeByte) hs
  have hsensed := runState_sensed ([0xBA#8, 0x00#8, 0xAC#8, 0x33#8].map .writeByte) s
  have hm : (runState ([0xBA#8, 0x00#8, 0xAC#8, 0x33#8].map .writeByte) s).measuring = true :=
    runState_triggerBytes hempty
  have hread := onReadByte_frame hm (hcursor.trans (Fin.ext hi : s.readIndex = i.castSucc))
  rw [show ([.writeByte 0xBA#8, .writeByte 0x00#8, .writeByte 0xAC#8, .writeByte 0x33#8, .readByte] : List Event) =
    [0xBA#8, 0x00#8, 0xAC#8, 0x33#8].map .writeByte ++ [.readByte] from rfl, runOutputs_append, hacks, runOutputs,
    applyEvent_readByte, hread, hinv.frameReady hm, hsensed.1, hsensed.2]
  rfl

/-! ## A dangling byte -/

/-- Settles O52: the left byte and the next two make an unrecognised word, so the byte 0x33 is a first byte again. -/
theorem danglingByteLosesTheTrigger : Obligations.DanglingByteLosesTheTrigger := by
  unfold Obligations.DanglingByteLosesTheTrigger
  intro s w w' hw
  have hstart : withInFlight s s.readIndex s.writeBuffer 0 s.output = s := withInFlight_self (Fin.ext hw)
  have hthird := fun cursor v => onWriteByte_withInFlight_third (data := 0xAC#8)
    (buffer := (s.writeBuffer.set 0 0x00#8).set 1 0x00#8) (by simp) (by simp) s cursor v
  rw [← hstart]
  simp only [runState, runOutputs, applyEvent_connect, applyEvent_writeByte, applyEvent_disconnect,
    onConnect_withInFlight, onWriteByte_withInFlight_second, hthird, setOutput_withInFlight,
    onWriteByte_withInFlight_first (show 0x00#8 ≠ 0xBA#8 by decide),
    onWriteByte_withInFlight_first (show 0x33#8 ≠ 0xBA#8 by decide)]
  refine ⟨rfl, ?_, rfl, rfl, rfl, rfl, rfl⟩
  exact (commandBuffer_eq_iff _ _ _ _).mpr (by simp [withInFlight])

/-! ## A whole measurement -/

theorem runState_writeTransaction (bytes : List Byte) (s : State) :
    runState (writeTransaction bytes) s =
      setOutput .nothing (runState (bytes.map .writeByte) (onConnect Config.busAddr s)) :=
  runState_append (.connect Config.busAddr true :: bytes.map .writeByte) [.disconnect] s

theorem runOutputs_disconnect (s : State) : runOutputs [.disconnect] s = [.nothing] := rfl

theorem addressMatches_busAddr : addressMatches Config.busAddr = true := (addressMatches_iff _).mpr rfl

/-- Under the invariant a write transaction is acknowledged throughout (R84, R102). -/
theorem runOutputs_writeTransaction (bytes : List Byte) {s : State} (hs : s.Inv) :
    runOutputs (writeTransaction bytes) s =
      Output.ack true :: List.replicate bytes.length (Output.ack true) ++ [Output.nothing] := by
  have hconnect : (onConnect Config.busAddr s).Inv := applyEvent_keeps_inv (.connect Config.busAddr true) s hs
  rw [writeTransaction, runOutputs_append, runOutputs, applyEvent_connect, runOutputs_writes bytes hconnect,
    runOutputs_disconnect, onConnect_output, addressMatches_busAddr]

theorem runState_resync_writeIndex (s : State) : (runState opResync s).writeIndex = 0 := by
  obtain ⟨hempty, -⟩ := resyncFromEveryState.1 (onConnect Config.busAddr s)
  rw [opResync, runState_writeTransaction, setOutput_writeIndex]
  simpa only [List.map_cons, List.map_nil] using hempty

theorem runState_trigger_measuring {s : State} (hw : s.writeIndex = 0) :
    (runState opTrigger s).measuring = true := by
  have hconnect : (onConnect Config.busAddr s).writeIndex = 0 := by rw [onConnect_eq, hw]
  rw [opTrigger, runState_writeTransaction, setOutput_measuring]
  simpa only [List.map_cons, List.map_nil] using runState_triggerBytes hconnect

theorem runOutputs_resync {s : State} (hs : s.Inv) :
    runOutputs opResync s = [.ack true, .ack true, .ack true, .ack true, .nothing] :=
  runOutputs_writeTransaction _ hs

theorem runOutputs_trigger {s : State} (hs : s.Inv) :
    runOutputs opTrigger s = [.ack true, .ack true, .ack true, .ack true, .nothing] :=
  runOutputs_writeTransaction _ hs

/-- READ 7 in MEASURING delivers the frame (R84, R101). -/
theorem runOutputs_read_seven {s : State} (hm : s.measuring = true) :
    runOutputs (opRead 7) s = Output.ack true :: s.readBuffer.toList.map Output.rdata ++ [Output.nothing] := by
  obtain ⟨hout, -⟩ := read_whole_frame false hm
  rw [opRead, runOutputs_append, hout, runOutputs_disconnect]

/-- RESYNC, TRIGGER and READ 7 from a state that meets the invariant: all acknowledged, then the frame of its sensed
values. -/
theorem runOutputs_measurement {s : State} (hs : s.Inv) :
    runOutputs (opResync ++ opTrigger ++ opRead 7) s =
      ([.ack true, .ack true, .ack true, .ack true, .nothing, .ack true, .ack true, .ack true, .ack true, .nothing,
        .ack true] : List Output) ++ (frame (rawHumidity s.hum) (rawTemperature s.temp)).toList.map Output.rdata ++
        [Output.nothing] := by
  have hresync : (runState opResync s).Inv := runState_keeps applyEvent_keeps_inv opResync hs
  have hinv : (runState (opResync ++ opTrigger) s).Inv := runState_keeps applyEvent_keeps_inv _ hs
  obtain ⟨hhum, htemp⟩ := runState_sensed (opResync ++ opTrigger) s
  have hm : (runState (opResync ++ opTrigger) s).measuring = true := by
    rw [runState_append]
    exact runState_trigger_measuring (runState_resync_writeIndex s)
  rw [runOutputs_append, runOutputs_append, runOutputs_resync hs, runOutputs_trigger hresync,
    runOutputs_read_seven hm, hinv.frameReady hm, hhum, htemp]
  simp only [List.cons_append, List.nil_append]

/-- Settles O55: the state meets the invariant and has the sensed values of construction, and the frame of these unpacks
to the raw values, which are within half a step. -/
theorem controllerReadsTheSensedValues : Obligations.ControllerReadsTheSensedValues := by
  unfold Obligations.ControllerReadsTheSensedValues
  intro hum temp start es hstart
  have hinv : (runState es start).Inv := reachableStatesMeetInv _ ⟨hum, temp, start, es, hstart, rfl⟩
  obtain ⟨hhum, htemp⟩ := runState_sensed es start
  obtain ⟨hHum, hTemp, rfl⟩ := (construct_eq_next_iff hum temp start).mp hstart
  have hout := runOutputs_measurement hinv
  rw [hhum, htemp] at hout
  obtain ⟨hunpackHum, hunpackTemp⟩ :=
    frameUnpacksToRawValues Config.statusDefault (rawHumidity ⟨hum, hHum⟩) (rawTemperature ⟨temp, hTemp⟩)
  obtain ⟨hrecoveredHum, hrecoveredTemp⟩ := sensedValuesRecovered
  refine ⟨frame (rawHumidity ⟨hum, hHum⟩) (rawTemperature ⟨temp, hTemp⟩), hout, rfl, rfl, ?_, ?_⟩
  · rw [frame, hunpackHum]
    exact hrecoveredHum ⟨hum, hHum⟩
  · rw [frame, hunpackTemp]
    exact hrecoveredTemp ⟨temp, hTemp⟩

end Sys2Proof.Machine
